-- ==== Sys2Proof/Word.lean ====
section
/-! DEFINITION. The word types of the timer/clock core (00_scope.md R11): register values are unsigned
32-bit words, the load and match halves are 16 bits, the I2C registers MSA, MDR and MTPR are 8 bits. -/

namespace Sys2Proof

/-- A 32-bit register value, and the 32-bit bus data `v` (00_scope.md R11, 30_encoding.md R98). -/
abbrev Word := BitVec 32

/-- A 16-bit half of a combined load or match (10_state.md R29, R30). -/
abbrev Half := BitVec 16

/-- An 8-bit I2C register or byte on the I2C bus (10_state.md R43, R45, R46). -/
abbrev Byte := BitVec 8

end Sys2Proof
end

