-- ==== Sys2Proof/Syntax.lean ====
section
/-! DEFINITION. The operations of the hardware: one constructor for each of the 189 rows of spec/opcode_table.json
(30_encoding.md R90 to R97). The operands that travel beside the operation word are arguments (log 2): `n` is the GPTM
instance, `v` the 32-bit bus data of a write, `off` the undefined offset, `k` the number of the snapshot that a restore
takes (log 12). -/

namespace Sys2Proof

/-- The four blocks, field B of the operation word (30_encoding.md R90). -/
inductive Block where
  | gptm
  | ssys
  | i2c
  | adc
deriving DecidableEq, Repr

/-- The direction of an access, field D of the operation word (30_encoding.md R90). -/
inductive Dir where
  | read
  | write
deriving DecidableEq, Repr

/-- The operations (30_encoding.md R92 to R97). -/
inductive Instr where
  /-- GPTM.R.CFG: word 0x0000 (40_gptm.md R110). -/
  | gptmRCfg (n : Nat)
  /-- GPTM.R.TAMR: word 0x0004 (40_gptm.md R111). -/
  | gptmRTamr (n : Nat)
  /-- GPTM.R.TBMR: word 0x0008 (40_gptm.md R112). -/
  | gptmRTbmr (n : Nat)
  /-- GPTM.R.CTL: word 0x000C (40_gptm.md R113). -/
  | gptmRCtl (n : Nat)
  /-- GPTM.R.IMR: word 0x0018 (40_gptm.md R114). -/
  | gptmRImr (n : Nat)
  /-- GPTM.R.RIS: word 0x001C (40_gptm.md R115). -/
  | gptmRRis (n : Nat)
  /-- GPTM.R.MIS: word 0x0020 (40_gptm.md R116). -/
  | gptmRMis (n : Nat)
  /-- GPTM.R.ICR: word 0x0024 (40_gptm.md R117). -/
  | gptmRIcr (n : Nat)
  /-- GPTM.R.TAILR: word 0x0028 (40_gptm.md R118). -/
  | gptmRTailr (n : Nat)
  /-- GPTM.R.TBILR: word 0x002C (40_gptm.md R119). -/
  | gptmRTbilr (n : Nat)
  /-- GPTM.R.TAMATCHR: word 0x0030 (40_gptm.md R120). -/
  | gptmRTamatchr (n : Nat)
  /-- GPTM.R.TBMATCHR: word 0x0034 (40_gptm.md R121). -/
  | gptmRTbmatchr (n : Nat)
  /-- GPTM.R.TAPR: word 0x0038 (40_gptm.md R122). -/
  | gptmRTapr (n : Nat)
  /-- GPTM.R.TBPR: word 0x003C (40_gptm.md R123). -/
  | gptmRTbpr (n : Nat)
  /-- GPTM.R.TAPMR: word 0x0040 (40_gptm.md R124). -/
  | gptmRTapmr (n : Nat)
  /-- GPTM.R.TBPMR: word 0x0044 (40_gptm.md R125). -/
  | gptmRTbpmr (n : Nat)
  /-- GPTM.R.TAR: word 0x0048 (40_gptm.md R126). -/
  | gptmRTar (n : Nat)
  /-- GPTM.R.TBR: word 0x004C (40_gptm.md R127). -/
  | gptmRTbr (n : Nat)
  /-- GPTM.W.CFG: word 0x1000 (40_gptm.md R130). -/
  | gptmWCfg (n : Nat) (v : Word)
  /-- GPTM.W.TAMR: word 0x1004 (40_gptm.md R131). -/
  | gptmWTamr (n : Nat) (v : Word)
  /-- GPTM.W.TBMR: word 0x1008 (40_gptm.md R132). -/
  | gptmWTbmr (n : Nat) (v : Word)
  /-- GPTM.W.CTL: word 0x100C (40_gptm.md R133). -/
  | gptmWCtl (n : Nat) (v : Word)
  /-- GPTM.W.IMR: word 0x1018 (40_gptm.md R134). -/
  | gptmWImr (n : Nat) (v : Word)
  /-- GPTM.W.RIS: word 0x101C (40_gptm.md R144). -/
  | gptmWRis (n : Nat) (v : Word)
  /-- GPTM.W.MIS: word 0x1020 (40_gptm.md R145). -/
  | gptmWMis (n : Nat) (v : Word)
  /-- GPTM.W.ICR: word 0x1024 (40_gptm.md R135). -/
  | gptmWIcr (n : Nat) (v : Word)
  /-- GPTM.W.TAILR: word 0x1028 (40_gptm.md R136). -/
  | gptmWTailr (n : Nat) (v : Word)
  /-- GPTM.W.TBILR: word 0x102C (40_gptm.md R137). -/
  | gptmWTbilr (n : Nat) (v : Word)
  /-- GPTM.W.TAMATCHR: word 0x1030 (40_gptm.md R138). -/
  | gptmWTamatchr (n : Nat) (v : Word)
  /-- GPTM.W.TBMATCHR: word 0x1034 (40_gptm.md R139). -/
  | gptmWTbmatchr (n : Nat) (v : Word)
  /-- GPTM.W.TAPR: word 0x1038 (40_gptm.md R140). -/
  | gptmWTapr (n : Nat) (v : Word)
  /-- GPTM.W.TBPR: word 0x103C (40_gptm.md R141). -/
  | gptmWTbpr (n : Nat) (v : Word)
  /-- GPTM.W.TAPMR: word 0x1040 (40_gptm.md R142). -/
  | gptmWTapmr (n : Nat) (v : Word)
  /-- GPTM.W.TBPMR: word 0x1044 (40_gptm.md R143). -/
  | gptmWTbpmr (n : Nat) (v : Word)
  /-- GPTM.W.TAR: word 0x1048 (40_gptm.md R146). -/
  | gptmWTar (n : Nat) (v : Word)
  /-- GPTM.W.TBR: word 0x104C (40_gptm.md R147). -/
  | gptmWTbr (n : Nat) (v : Word)
  /-- GPTM.R.UNDEF: read an offset that is no row of the map (40_gptm.md R128). -/
  | gptmRUndef (n : Nat) (off : BitVec 12)
  /-- GPTM.W.UNDEF: write an offset that is no row of the map (40_gptm.md R148). -/
  | gptmWUndef (n : Nat) (off : BitVec 12) (v : Word)
  /-- SSYS.R.DID0: word 0x2000 (41_ssys.md R185). -/
  | ssysRDid0
  /-- SSYS.R.DID1: word 0x2004 (41_ssys.md R186). -/
  | ssysRDid1
  /-- SSYS.R.DC0: word 0x2008 (41_ssys.md R187). -/
  | ssysRDc0
  /-- SSYS.R.DC1: word 0x2010 (41_ssys.md R188). -/
  | ssysRDc1
  /-- SSYS.R.DC2: word 0x2014 (41_ssys.md R189). -/
  | ssysRDc2
  /-- SSYS.R.DC3: word 0x2018 (41_ssys.md R190). -/
  | ssysRDc3
  /-- SSYS.R.DC4: word 0x201C (41_ssys.md R191). -/
  | ssysRDc4
  /-- SSYS.R.RCC: word 0x2060 (41_ssys.md R192). -/
  | ssysRRcc
  /-- SSYS.R.CLKCFG: word 0x2068 (41_ssys.md R193). -/
  | ssysRClkcfg
  /-- SSYS.R.RCC2: word 0x2070 (41_ssys.md R194). -/
  | ssysRRcc2
  /-- SSYS.R.CATCHALL.PBORCTL: word 0x2030 (41_ssys.md R195). -/
  | ssysRCatchallPborctl
  /-- SSYS.R.CATCHALL.LDOPCTL: word 0x2034 (41_ssys.md R195). -/
  | ssysRCatchallLdopctl
  /-- SSYS.R.CATCHALL.SRCR0: word 0x2040 (41_ssys.md R195). -/
  | ssysRCatchallSrcr0
  /-- SSYS.R.CATCHALL.SRCR1: word 0x2044 (41_ssys.md R195). -/
  | ssysRCatchallSrcr1
  /-- SSYS.R.CATCHALL.SRCR2: word 0x2048 (41_ssys.md R195). -/
  | ssysRCatchallSrcr2
  /-- SSYS.R.CATCHALL.RIS: word 0x2050 (41_ssys.md R195). -/
  | ssysRCatchallRis
  /-- SSYS.R.CATCHALL.IMC: word 0x2054 (41_ssys.md R195). -/
  | ssysRCatchallImc
  /-- SSYS.R.CATCHALL.MISC: word 0x2058 (41_ssys.md R195). -/
  | ssysRCatchallMisc
  /-- SSYS.R.CATCHALL.RESC: word 0x205C (41_ssys.md R195). -/
  | ssysRCatchallResc
  /-- SSYS.R.CATCHALL.RCGC0: word 0x2100 (41_ssys.md R195). -/
  | ssysRCatchallRcgc0
  /-- SSYS.R.CATCHALL.RCGC1: word 0x2104 (41_ssys.md R195). -/
  | ssysRCatchallRcgc1
  /-- SSYS.R.CATCHALL.RCGC2: word 0x2108 (41_ssys.md R195). -/
  | ssysRCatchallRcgc2
  /-- SSYS.R.CATCHALL.SCGC0: word 0x2110 (41_ssys.md R195). -/
  | ssysRCatchallScgc0
  /-- SSYS.R.CATCHALL.SCGC1: word 0x2114 (41_ssys.md R195). -/
  | ssysRCatchallScgc1
  /-- SSYS.R.CATCHALL.SCGC2: word 0x2118 (41_ssys.md R195). -/
  | ssysRCatchallScgc2
  /-- SSYS.R.CATCHALL.DCGC0: word 0x2120 (41_ssys.md R195). -/
  | ssysRCatchallDcgc0
  /-- SSYS.R.CATCHALL.DCGC1: word 0x2124 (41_ssys.md R195). -/
  | ssysRCatchallDcgc1
  /-- SSYS.R.CATCHALL.DCGC2: word 0x2128 (41_ssys.md R195). -/
  | ssysRCatchallDcgc2
  /-- SSYS.R.CATCHALL.CLKVCLR: word 0x2150 (41_ssys.md R195). -/
  | ssysRCatchallClkvclr
  /-- SSYS.R.CATCHALL.LDOARST: word 0x2160 (41_ssys.md R195). -/
  | ssysRCatchallLdoarst
  /-- SSYS.R.CATCHALL.USER0: word 0x21E0 (41_ssys.md R195). -/
  | ssysRCatchallUser0
  /-- SSYS.R.CATCHALL.USER1: word 0x21E4 (41_ssys.md R195). -/
  | ssysRCatchallUser1
  /-- SSYS.W.DID0: word 0x3000 (41_ssys.md R207). -/
  | ssysWDid0 (v : Word)
  /-- SSYS.W.DID1: word 0x3004 (41_ssys.md R208). -/
  | ssysWDid1 (v : Word)
  /-- SSYS.W.DC0: word 0x3008 (41_ssys.md R209). -/
  | ssysWDc0 (v : Word)
  /-- SSYS.W.DC1: word 0x3010 (41_ssys.md R210). -/
  | ssysWDc1 (v : Word)
  /-- SSYS.W.DC2: word 0x3014 (41_ssys.md R211). -/
  | ssysWDc2 (v : Word)
  /-- SSYS.W.DC3: word 0x3018 (41_ssys.md R212). -/
  | ssysWDc3 (v : Word)
  /-- SSYS.W.DC4: word 0x301C (41_ssys.md R213). -/
  | ssysWDc4 (v : Word)
  /-- SSYS.W.RCC: word 0x3060 (41_ssys.md R202). -/
  | ssysWRcc (v : Word)
  /-- SSYS.W.CLKCFG: word 0x3068 (41_ssys.md R203). -/
  | ssysWClkcfg (v : Word)
  /-- SSYS.W.RCC2: word 0x3070 (41_ssys.md R204). -/
  | ssysWRcc2 (v : Word)
  /-- SSYS.W.CATCHALL.PBORCTL: word 0x3030 (41_ssys.md R205). -/
  | ssysWCatchallPborctl (v : Word)
  /-- SSYS.W.CATCHALL.LDOPCTL: word 0x3034 (41_ssys.md R205). -/
  | ssysWCatchallLdopctl (v : Word)
  /-- SSYS.W.CATCHALL.SRCR0: word 0x3040 (41_ssys.md R205). -/
  | ssysWCatchallSrcr0 (v : Word)
  /-- SSYS.W.CATCHALL.SRCR1: word 0x3044 (41_ssys.md R205). -/
  | ssysWCatchallSrcr1 (v : Word)
  /-- SSYS.W.CATCHALL.SRCR2: word 0x3048 (41_ssys.md R205). -/
  | ssysWCatchallSrcr2 (v : Word)
  /-- SSYS.W.CATCHALL.RIS: word 0x3050 (41_ssys.md R205). -/
  | ssysWCatchallRis (v : Word)
  /-- SSYS.W.CATCHALL.IMC: word 0x3054 (41_ssys.md R205). -/
  | ssysWCatchallImc (v : Word)
  /-- SSYS.W.CATCHALL.MISC: word 0x3058 (41_ssys.md R205). -/
  | ssysWCatchallMisc (v : Word)
  /-- SSYS.W.CATCHALL.RESC: word 0x305C (41_ssys.md R205). -/
  | ssysWCatchallResc (v : Word)
  /-- SSYS.W.CATCHALL.RCGC0: word 0x3100 (41_ssys.md R205). -/
  | ssysWCatchallRcgc0 (v : Word)
  /-- SSYS.W.CATCHALL.RCGC1: word 0x3104 (41_ssys.md R205). -/
  | ssysWCatchallRcgc1 (v : Word)
  /-- SSYS.W.CATCHALL.RCGC2: word 0x3108 (41_ssys.md R205). -/
  | ssysWCatchallRcgc2 (v : Word)
  /-- SSYS.W.CATCHALL.SCGC0: word 0x3110 (41_ssys.md R205). -/
  | ssysWCatchallScgc0 (v : Word)
  /-- SSYS.W.CATCHALL.SCGC1: word 0x3114 (41_ssys.md R205). -/
  | ssysWCatchallScgc1 (v : Word)
  /-- SSYS.W.CATCHALL.SCGC2: word 0x3118 (41_ssys.md R205). -/
  | ssysWCatchallScgc2 (v : Word)
  /-- SSYS.W.CATCHALL.DCGC0: word 0x3120 (41_ssys.md R205). -/
  | ssysWCatchallDcgc0 (v : Word)
  /-- SSYS.W.CATCHALL.DCGC1: word 0x3124 (41_ssys.md R205). -/
  | ssysWCatchallDcgc1 (v : Word)
  /-- SSYS.W.CATCHALL.DCGC2: word 0x3128 (41_ssys.md R205). -/
  | ssysWCatchallDcgc2 (v : Word)
  /-- SSYS.W.CATCHALL.CLKVCLR: word 0x3150 (41_ssys.md R205). -/
  | ssysWCatchallClkvclr (v : Word)
  /-- SSYS.W.CATCHALL.LDOARST: word 0x3160 (41_ssys.md R205). -/
  | ssysWCatchallLdoarst (v : Word)
  /-- SSYS.W.CATCHALL.USER0: word 0x31E0 (41_ssys.md R205). -/
  | ssysWCatchallUser0 (v : Word)
  /-- SSYS.W.CATCHALL.USER1: word 0x31E4 (41_ssys.md R205). -/
  | ssysWCatchallUser1 (v : Word)
  /-- SSYS.R.UNDEF: read an offset that is no row of the map (41_ssys.md R196). -/
  | ssysRUndef (off : BitVec 12)
  /-- SSYS.W.UNDEF: write an offset that is no row of the map (41_ssys.md R206). -/
  | ssysWUndef (off : BitVec 12) (v : Word)
  /-- I2C.R.MSA: word 0x4000 (42_i2c.md R225). -/
  | i2cRMsa
  /-- I2C.R.MCS: word 0x4004 (42_i2c.md R226). -/
  | i2cRMcs
  /-- I2C.R.MDR: word 0x4008 (42_i2c.md R227). -/
  | i2cRMdr
  /-- I2C.R.MTPR: word 0x400C (42_i2c.md R228). -/
  | i2cRMtpr
  /-- I2C.R.MIMR: word 0x4010 (42_i2c.md R229). -/
  | i2cRMimr
  /-- I2C.R.MRIS: word 0x4014 (42_i2c.md R230). -/
  | i2cRMris
  /-- I2C.R.MMIS: word 0x4018 (42_i2c.md R231). -/
  | i2cRMmis
  /-- I2C.R.MICR: word 0x401C (42_i2c.md R232). -/
  | i2cRMicr
  /-- I2C.R.MCR: word 0x4020 (42_i2c.md R233). -/
  | i2cRMcr
  /-- I2C.W.MSA: word 0x5000 (42_i2c.md R240). -/
  | i2cWMsa (v : Word)
  /-- I2C.W.MCS: word 0x5004 (42_i2c.md R241). -/
  | i2cWMcs (v : Word)
  /-- I2C.W.MDR: word 0x5008 (42_i2c.md R242). -/
  | i2cWMdr (v : Word)
  /-- I2C.W.MTPR: word 0x500C (42_i2c.md R243). -/
  | i2cWMtpr (v : Word)
  /-- I2C.W.MIMR: word 0x5010 (42_i2c.md R244). -/
  | i2cWMimr (v : Word)
  /-- I2C.W.MRIS: word 0x5014 (42_i2c.md R245). -/
  | i2cWMris (v : Word)
  /-- I2C.W.MMIS: word 0x5018 (42_i2c.md R246). -/
  | i2cWMmis (v : Word)
  /-- I2C.W.MICR: word 0x501C (42_i2c.md R247). -/
  | i2cWMicr (v : Word)
  /-- I2C.W.MCR: word 0x5020 (42_i2c.md R248). -/
  | i2cWMcr (v : Word)
  /-- I2C.R.UNDEF: read an offset that is no row of the map (42_i2c.md R234). -/
  | i2cRUndef (off : BitVec 12)
  /-- I2C.W.UNDEF: write an offset that is no row of the map (42_i2c.md R249). -/
  | i2cWUndef (off : BitVec 12) (v : Word)
  /-- ADC.R.ACTSS: word 0x6000 (43_adc.md R270). -/
  | adcRActss
  /-- ADC.R.RIS: word 0x6004 (43_adc.md R271). -/
  | adcRRis
  /-- ADC.R.IM: word 0x6008 (43_adc.md R272). -/
  | adcRIm
  /-- ADC.R.ISC: word 0x600C (43_adc.md R273). -/
  | adcRIsc
  /-- ADC.R.OSTAT: word 0x6010 (43_adc.md R274). -/
  | adcROstat
  /-- ADC.R.EMUX: word 0x6014 (43_adc.md R275). -/
  | adcREmux
  /-- ADC.R.USTAT: word 0x6018 (43_adc.md R276). -/
  | adcRUstat
  /-- ADC.R.SSPRI: word 0x6020 (43_adc.md R277). -/
  | adcRSspri
  /-- ADC.R.PSSI: word 0x6028 (43_adc.md R278). -/
  | adcRPssi
  /-- ADC.R.SAC: word 0x6030 (43_adc.md R279). -/
  | adcRSac
  /-- ADC.R.SSMUX0: word 0x6040 (43_adc.md R280). -/
  | adcRSsmux0
  /-- ADC.R.SSCTL0: word 0x6044 (43_adc.md R281). -/
  | adcRSsctl0
  /-- ADC.R.SSFIFO0: word 0x6048 (43_adc.md R282). -/
  | adcRSsfifo0
  /-- ADC.R.SSFSTAT0: word 0x604C (43_adc.md R283). -/
  | adcRSsfstat0
  /-- ADC.R.SSMUX1: word 0x6060 (43_adc.md R280). -/
  | adcRSsmux1
  /-- ADC.R.SSCTL1: word 0x6064 (43_adc.md R281). -/
  | adcRSsctl1
  /-- ADC.R.SSFIFO1: word 0x6068 (43_adc.md R282). -/
  | adcRSsfifo1
  /-- ADC.R.SSFSTAT1: word 0x606C (43_adc.md R283). -/
  | adcRSsfstat1
  /-- ADC.R.SSMUX2: word 0x6080 (43_adc.md R280). -/
  | adcRSsmux2
  /-- ADC.R.SSCTL2: word 0x6084 (43_adc.md R281). -/
  | adcRSsctl2
  /-- ADC.R.SSFIFO2: word 0x6088 (43_adc.md R282). -/
  | adcRSsfifo2
  /-- ADC.R.SSFSTAT2: word 0x608C (43_adc.md R283). -/
  | adcRSsfstat2
  /-- ADC.R.SSMUX3: word 0x60A0 (43_adc.md R280). -/
  | adcRSsmux3
  /-- ADC.R.SSCTL3: word 0x60A4 (43_adc.md R281). -/
  | adcRSsctl3
  /-- ADC.R.SSFIFO3: word 0x60A8 (43_adc.md R282). -/
  | adcRSsfifo3
  /-- ADC.R.SSFSTAT3: word 0x60AC (43_adc.md R283). -/
  | adcRSsfstat3
  /-- ADC.W.ACTSS: word 0x7000 (43_adc.md R290). -/
  | adcWActss (v : Word)
  /-- ADC.W.RIS: word 0x7004 (43_adc.md R291). -/
  | adcWRis (v : Word)
  /-- ADC.W.IM: word 0x7008 (43_adc.md R292). -/
  | adcWIm (v : Word)
  /-- ADC.W.ISC: word 0x700C (43_adc.md R293). -/
  | adcWIsc (v : Word)
  /-- ADC.W.OSTAT: word 0x7010 (43_adc.md R294). -/
  | adcWOstat (v : Word)
  /-- ADC.W.EMUX: word 0x7014 (43_adc.md R295). -/
  | adcWEmux (v : Word)
  /-- ADC.W.USTAT: word 0x7018 (43_adc.md R296). -/
  | adcWUstat (v : Word)
  /-- ADC.W.SSPRI: word 0x7020 (43_adc.md R297). -/
  | adcWSspri (v : Word)
  /-- ADC.W.PSSI: word 0x7028 (43_adc.md R298). -/
  | adcWPssi (v : Word)
  /-- ADC.W.SAC: word 0x7030 (43_adc.md R299). -/
  | adcWSac (v : Word)
  /-- ADC.W.SSMUX0: word 0x7040 (43_adc.md R300). -/
  | adcWSsmux0 (v : Word)
  /-- ADC.W.SSCTL0: word 0x7044 (43_adc.md R301). -/
  | adcWSsctl0 (v : Word)
  /-- ADC.W.SSFIFO0: word 0x7048 (43_adc.md R302). -/
  | adcWSsfifo0 (v : Word)
  /-- ADC.W.SSFSTAT0: word 0x704C (43_adc.md R303). -/
  | adcWSsfstat0 (v : Word)
  /-- ADC.W.SSMUX1: word 0x7060 (43_adc.md R300). -/
  | adcWSsmux1 (v : Word)
  /-- ADC.W.SSCTL1: word 0x7064 (43_adc.md R301). -/
  | adcWSsctl1 (v : Word)
  /-- ADC.W.SSFIFO1: word 0x7068 (43_adc.md R302). -/
  | adcWSsfifo1 (v : Word)
  /-- ADC.W.SSFSTAT1: word 0x706C (43_adc.md R303). -/
  | adcWSsfstat1 (v : Word)
  /-- ADC.W.SSMUX2: word 0x7080 (43_adc.md R300). -/
  | adcWSsmux2 (v : Word)
  /-- ADC.W.SSCTL2: word 0x7084 (43_adc.md R301). -/
  | adcWSsctl2 (v : Word)
  /-- ADC.W.SSFIFO2: word 0x7088 (43_adc.md R302). -/
  | adcWSsfifo2 (v : Word)
  /-- ADC.W.SSFSTAT2: word 0x708C (43_adc.md R303). -/
  | adcWSsfstat2 (v : Word)
  /-- ADC.W.SSMUX3: word 0x70A0 (43_adc.md R300). -/
  | adcWSsmux3 (v : Word)
  /-- ADC.W.SSCTL3: word 0x70A4 (43_adc.md R301). -/
  | adcWSsctl3 (v : Word)
  /-- ADC.W.SSFIFO3: word 0x70A8 (43_adc.md R302). -/
  | adcWSsfifo3 (v : Word)
  /-- ADC.W.SSFSTAT3: word 0x70AC (43_adc.md R303). -/
  | adcWSsfstat3 (v : Word)
  /-- ADC.R.UNDEF: read an offset that is no row of the map (43_adc.md R284). -/
  | adcRUndef (off : BitVec 12)
  /-- ADC.W.UNDEF: write an offset that is no row of the map (43_adc.md R304). -/
  | adcWUndef (off : BitVec 12) (v : Word)
  /-- GPTM.EV.FIRE_A: event word 0x8000 (40_gptm.md R150). -/
  | gptmEvFireA (n : Nat)
  /-- GPTM.EV.FIRE_B: event word 0x8001 (40_gptm.md R151). -/
  | gptmEvFireB (n : Nat)
  /-- GPTM.EV.RESTORE: event word 0x8FFE (70_reset_and_hazards.md R366). -/
  | gptmEvRestore (n : Nat) (k : Word)
  /-- GPTM.EV.RESET: event word 0x8FFF (70_reset_and_hazards.md R351). -/
  | gptmEvReset (n : Nat)
  /-- SSYS.EV.RESTORE: event word 0xAFFE (70_reset_and_hazards.md R366). -/
  | ssysEvRestore (k : Word)
  /-- SSYS.EV.RESET: event word 0xAFFF (70_reset_and_hazards.md R352). -/
  | ssysEvReset
  /-- I2C.EV.RESTORE: event word 0xCFFE (70_reset_and_hazards.md R366). -/
  | i2cEvRestore (k : Word)
  /-- I2C.EV.RESET: event word 0xCFFF (70_reset_and_hazards.md R353). -/
  | i2cEvReset
  /-- ADC.EV.TRIGGER: event word 0xE000 (43_adc.md R305). -/
  | adcEvTrigger
  /-- ADC.EV.RESTORE: event word 0xEFFE (70_reset_and_hazards.md R366). -/
  | adcEvRestore (k : Word)
  /-- ADC.EV.RESET: event word 0xEFFF (70_reset_and_hazards.md R354). -/
  | adcEvReset
deriving DecidableEq, Repr

end Sys2Proof
end

