-- ==== Sys2Proof/WellFormed.lean ====
section
/-! DEFINITION. Which operations are well formed: an UNDEF operation carries an offset that is no row of its block's map
(30_encoding.md R92 to R96). Every other operand may take every value of its type. -/

namespace Sys2Proof

/-- The offsets of the GPTM map; reads and writes have the same ones (30_encoding.md R92). -/
def gptmOffsets : List Nat :=
  [0x000, 0x004, 0x008, 0x00C, 0x018, 0x01C, 0x020, 0x024, 0x028, 0x02C, 0x030, 0x034, 0x038, 0x03C, 0x040,
   0x044, 0x048, 0x04C]

/-- The offsets of the SSYS map; reads and writes have the same ones (30_encoding.md R93). -/
def ssysOffsets : List Nat :=
  [0x000, 0x004, 0x008, 0x010, 0x014, 0x018, 0x01C, 0x030, 0x034, 0x040, 0x044, 0x048, 0x050, 0x054, 0x058,
   0x05C, 0x060, 0x068, 0x070, 0x100, 0x104, 0x108, 0x110, 0x114, 0x118, 0x120, 0x124, 0x128, 0x150, 0x160,
   0x1E0, 0x1E4]

/-- The offsets of the I2C map; reads and writes have the same ones (30_encoding.md R94). -/
def i2cOffsets : List Nat :=
  [0x000, 0x004, 0x008, 0x00C, 0x010, 0x014, 0x018, 0x01C, 0x020]

/-- The offsets of the ADC map; reads and writes have the same ones (30_encoding.md R95). -/
def adcOffsets : List Nat :=
  [0x000, 0x004, 0x008, 0x00C, 0x010, 0x014, 0x018, 0x020, 0x028, 0x030, 0x040, 0x044, 0x048, 0x04C, 0x060,
   0x064, 0x068, 0x06C, 0x080, 0x084, 0x088, 0x08C, 0x0A0, 0x0A4, 0x0A8, 0x0AC]

/-- The operation is well formed. -/
def Instr.wellFormed (i : Instr) : Bool :=
  match i with
  | .gptmRCfg _ => true
  | .gptmRTamr _ => true
  | .gptmRTbmr _ => true
  | .gptmRCtl _ => true
  | .gptmRImr _ => true
  | .gptmRRis _ => true
  | .gptmRMis _ => true
  | .gptmRIcr _ => true
  | .gptmRTailr _ => true
  | .gptmRTbilr _ => true
  | .gptmRTamatchr _ => true
  | .gptmRTbmatchr _ => true
  | .gptmRTapr _ => true
  | .gptmRTbpr _ => true
  | .gptmRTapmr _ => true
  | .gptmRTbpmr _ => true
  | .gptmRTar _ => true
  | .gptmRTbr _ => true
  | .gptmWCfg _ _ => true
  | .gptmWTamr _ _ => true
  | .gptmWTbmr _ _ => true
  | .gptmWCtl _ _ => true
  | .gptmWImr _ _ => true
  | .gptmWRis _ _ => true
  | .gptmWMis _ _ => true
  | .gptmWIcr _ _ => true
  | .gptmWTailr _ _ => true
  | .gptmWTbilr _ _ => true
  | .gptmWTamatchr _ _ => true
  | .gptmWTbmatchr _ _ => true
  | .gptmWTapr _ _ => true
  | .gptmWTbpr _ _ => true
  | .gptmWTapmr _ _ => true
  | .gptmWTbpmr _ _ => true
  | .gptmWTar _ _ => true
  | .gptmWTbr _ _ => true
  | .gptmRUndef _ off => !gptmOffsets.contains off.toNat
  | .gptmWUndef _ off _ => !gptmOffsets.contains off.toNat
  | .ssysRDid0 => true
  | .ssysRDid1 => true
  | .ssysRDc0 => true
  | .ssysRDc1 => true
  | .ssysRDc2 => true
  | .ssysRDc3 => true
  | .ssysRDc4 => true
  | .ssysRRcc => true
  | .ssysRClkcfg => true
  | .ssysRRcc2 => true
  | .ssysRCatchallPborctl => true
  | .ssysRCatchallLdopctl => true
  | .ssysRCatchallSrcr0 => true
  | .ssysRCatchallSrcr1 => true
  | .ssysRCatchallSrcr2 => true
  | .ssysRCatchallRis => true
  | .ssysRCatchallImc => true
  | .ssysRCatchallMisc => true
  | .ssysRCatchallResc => true
  | .ssysRCatchallRcgc0 => true
  | .ssysRCatchallRcgc1 => true
  | .ssysRCatchallRcgc2 => true
  | .ssysRCatchallScgc0 => true
  | .ssysRCatchallScgc1 => true
  | .ssysRCatchallScgc2 => true
  | .ssysRCatchallDcgc0 => true
  | .ssysRCatchallDcgc1 => true
  | .ssysRCatchallDcgc2 => true
  | .ssysRCatchallClkvclr => true
  | .ssysRCatchallLdoarst => true
  | .ssysRCatchallUser0 => true
  | .ssysRCatchallUser1 => true
  | .ssysWDid0 _ => true
  | .ssysWDid1 _ => true
  | .ssysWDc0 _ => true
  | .ssysWDc1 _ => true
  | .ssysWDc2 _ => true
  | .ssysWDc3 _ => true
  | .ssysWDc4 _ => true
  | .ssysWRcc _ => true
  | .ssysWClkcfg _ => true
  | .ssysWRcc2 _ => true
  | .ssysWCatchallPborctl _ => true
  | .ssysWCatchallLdopctl _ => true
  | .ssysWCatchallSrcr0 _ => true
  | .ssysWCatchallSrcr1 _ => true
  | .ssysWCatchallSrcr2 _ => true
  | .ssysWCatchallRis _ => true
  | .ssysWCatchallImc _ => true
  | .ssysWCatchallMisc _ => true
  | .ssysWCatchallResc _ => true
  | .ssysWCatchallRcgc0 _ => true
  | .ssysWCatchallRcgc1 _ => true
  | .ssysWCatchallRcgc2 _ => true
  | .ssysWCatchallScgc0 _ => true
  | .ssysWCatchallScgc1 _ => true
  | .ssysWCatchallScgc2 _ => true
  | .ssysWCatchallDcgc0 _ => true
  | .ssysWCatchallDcgc1 _ => true
  | .ssysWCatchallDcgc2 _ => true
  | .ssysWCatchallClkvclr _ => true
  | .ssysWCatchallLdoarst _ => true
  | .ssysWCatchallUser0 _ => true
  | .ssysWCatchallUser1 _ => true
  | .ssysRUndef off => !ssysOffsets.contains off.toNat
  | .ssysWUndef off _ => !ssysOffsets.contains off.toNat
  | .i2cRMsa => true
  | .i2cRMcs => true
  | .i2cRMdr => true
  | .i2cRMtpr => true
  | .i2cRMimr => true
  | .i2cRMris => true
  | .i2cRMmis => true
  | .i2cRMicr => true
  | .i2cRMcr => true
  | .i2cWMsa _ => true
  | .i2cWMcs _ => true
  | .i2cWMdr _ => true
  | .i2cWMtpr _ => true
  | .i2cWMimr _ => true
  | .i2cWMris _ => true
  | .i2cWMmis _ => true
  | .i2cWMicr _ => true
  | .i2cWMcr _ => true
  | .i2cRUndef off => !i2cOffsets.contains off.toNat
  | .i2cWUndef off _ => !i2cOffsets.contains off.toNat
  | .adcRActss => true
  | .adcRRis => true
  | .adcRIm => true
  | .adcRIsc => true
  | .adcROstat => true
  | .adcREmux => true
  | .adcRUstat => true
  | .adcRSspri => true
  | .adcRPssi => true
  | .adcRSac => true
  | .adcRSsmux0 => true
  | .adcRSsctl0 => true
  | .adcRSsfifo0 => true
  | .adcRSsfstat0 => true
  | .adcRSsmux1 => true
  | .adcRSsctl1 => true
  | .adcRSsfifo1 => true
  | .adcRSsfstat1 => true
  | .adcRSsmux2 => true
  | .adcRSsctl2 => true
  | .adcRSsfifo2 => true
  | .adcRSsfstat2 => true
  | .adcRSsmux3 => true
  | .adcRSsctl3 => true
  | .adcRSsfifo3 => true
  | .adcRSsfstat3 => true
  | .adcWActss _ => true
  | .adcWRis _ => true
  | .adcWIm _ => true
  | .adcWIsc _ => true
  | .adcWOstat _ => true
  | .adcWEmux _ => true
  | .adcWUstat _ => true
  | .adcWSspri _ => true
  | .adcWPssi _ => true
  | .adcWSac _ => true
  | .adcWSsmux0 _ => true
  | .adcWSsctl0 _ => true
  | .adcWSsfifo0 _ => true
  | .adcWSsfstat0 _ => true
  | .adcWSsmux1 _ => true
  | .adcWSsctl1 _ => true
  | .adcWSsfifo1 _ => true
  | .adcWSsfstat1 _ => true
  | .adcWSsmux2 _ => true
  | .adcWSsctl2 _ => true
  | .adcWSsfifo2 _ => true
  | .adcWSsfstat2 _ => true
  | .adcWSsmux3 _ => true
  | .adcWSsctl3 _ => true
  | .adcWSsfifo3 _ => true
  | .adcWSsfstat3 _ => true
  | .adcRUndef off => !adcOffsets.contains off.toNat
  | .adcWUndef off _ => !adcOffsets.contains off.toNat
  | .gptmEvFireA _ => true
  | .gptmEvFireB _ => true
  | .gptmEvRestore _ _ => true
  | .gptmEvReset _ => true
  | .ssysEvRestore _ => true
  | .ssysEvReset => true
  | .i2cEvRestore _ => true
  | .i2cEvReset => true
  | .adcEvTrigger => true
  | .adcEvRestore _ => true
  | .adcEvReset => true

end Sys2Proof
end

