-- ==== Sys2Proof/Decode.lean ====
section
/-! DEFINITION. The operation word (30_encoding.md R90), the decoder from a word and the operands beside it to an
operation, total on all words and refusing an event code without a row by name (R91, R97), and the encoder back. The
maps are rules R92 to R95. -/

namespace Sys2Proof

/-- One operation as the model passes it on: the 16-bit operation word, and beside it the GPTM instance and the 32-bit
data, which is the bus data of a write and the snapshot number of a restore (30_encoding.md R90; log 2). -/
structure OpRequest where
  word : BitVec 16
  inst : Nat
  data : Word
deriving DecidableEq, Repr

/-- Why a word has no operation. -/
inductive DecodeError where
  /-- An event code that is no row of 30_encoding.md R97. -/
  | noSuchEvent (word : BitVec 16)
deriving DecidableEq, Repr

/-- Field B (30_encoding.md R90). -/
def Block.bits (b : Block) : BitVec 2 :=
  match b with
  | .gptm => 0#2
  | .ssys => 1#2
  | .i2c => 2#2
  | .adc => 3#2

/-- The block that field B names. -/
def Block.ofBits (b : BitVec 2) : Block :=
  if b = 0#2 then .gptm else if b = 1#2 then .ssys else if b = 2#2 then .i2c else .adc

/-- Field D (30_encoding.md R90). -/
def Dir.bit (d : Dir) : BitVec 1 :=
  match d with
  | .read => 0#1
  | .write => 1#1

/-- The direction that field D names. -/
def Dir.ofBit (d : BitVec 1) : Dir := if d = 0#1 then .read else .write

/-- Field K, bit 15. -/
def kindField (w : BitVec 16) : BitVec 1 := w.extractLsb' 15 1

/-- Field B, bits 14:13. -/
def blockField (w : BitVec 16) : BitVec 2 := w.extractLsb' 13 2

/-- Field D, bit 12. -/
def dirField (w : BitVec 16) : BitVec 1 := w.extractLsb' 12 1

/-- Field O or E, bits 11:0. -/
def offsetField (w : BitVec 16) : BitVec 12 := w.extractLsb' 0 12

/-- The word of an access (30_encoding.md R90). -/
def accessWord (b : Block) (d : Dir) (off : BitVec 12) : BitVec 16 :=
  0#1 ++ b.bits ++ d.bit ++ off

/-- The word of an event (30_encoding.md R90, R97). -/
def eventWord (b : Block) (code : BitVec 12) : BitVec 16 :=
  1#1 ++ b.bits ++ 0#1 ++ code

/-- The row of the GPTM map at offset `o`, read side (30_encoding.md R92). -/
def gptmReadRow (n : Nat) (o : Nat) : Option Instr :=
  match o with
  | 0x000 => some (.gptmRCfg n)
  | 0x004 => some (.gptmRTamr n)
  | 0x008 => some (.gptmRTbmr n)
  | 0x00C => some (.gptmRCtl n)
  | 0x018 => some (.gptmRImr n)
  | 0x01C => some (.gptmRRis n)
  | 0x020 => some (.gptmRMis n)
  | 0x024 => some (.gptmRIcr n)
  | 0x028 => some (.gptmRTailr n)
  | 0x02C => some (.gptmRTbilr n)
  | 0x030 => some (.gptmRTamatchr n)
  | 0x034 => some (.gptmRTbmatchr n)
  | 0x038 => some (.gptmRTapr n)
  | 0x03C => some (.gptmRTbpr n)
  | 0x040 => some (.gptmRTapmr n)
  | 0x044 => some (.gptmRTbpmr n)
  | 0x048 => some (.gptmRTar n)
  | 0x04C => some (.gptmRTbr n)
  | _ => none

/-- The row of the GPTM map at offset `o`, write side (30_encoding.md R92). -/
def gptmWriteRow (n : Nat) (v : Word) (o : Nat) : Option Instr :=
  match o with
  | 0x000 => some (.gptmWCfg n v)
  | 0x004 => some (.gptmWTamr n v)
  | 0x008 => some (.gptmWTbmr n v)
  | 0x00C => some (.gptmWCtl n v)
  | 0x018 => some (.gptmWImr n v)
  | 0x01C => some (.gptmWRis n v)
  | 0x020 => some (.gptmWMis n v)
  | 0x024 => some (.gptmWIcr n v)
  | 0x028 => some (.gptmWTailr n v)
  | 0x02C => some (.gptmWTbilr n v)
  | 0x030 => some (.gptmWTamatchr n v)
  | 0x034 => some (.gptmWTbmatchr n v)
  | 0x038 => some (.gptmWTapr n v)
  | 0x03C => some (.gptmWTbpr n v)
  | 0x040 => some (.gptmWTapmr n v)
  | 0x044 => some (.gptmWTbpmr n v)
  | 0x048 => some (.gptmWTar n v)
  | 0x04C => some (.gptmWTbr n v)
  | _ => none

/-- The row of the SSYS map at offset `o`, read side (30_encoding.md R93). -/
def ssysReadRow (o : Nat) : Option Instr :=
  match o with
  | 0x000 => some .ssysRDid0
  | 0x004 => some .ssysRDid1
  | 0x008 => some .ssysRDc0
  | 0x010 => some .ssysRDc1
  | 0x014 => some .ssysRDc2
  | 0x018 => some .ssysRDc3
  | 0x01C => some .ssysRDc4
  | 0x060 => some .ssysRRcc
  | 0x068 => some .ssysRClkcfg
  | 0x070 => some .ssysRRcc2
  | 0x030 => some .ssysRCatchallPborctl
  | 0x034 => some .ssysRCatchallLdopctl
  | 0x040 => some .ssysRCatchallSrcr0
  | 0x044 => some .ssysRCatchallSrcr1
  | 0x048 => some .ssysRCatchallSrcr2
  | 0x050 => some .ssysRCatchallRis
  | 0x054 => some .ssysRCatchallImc
  | 0x058 => some .ssysRCatchallMisc
  | 0x05C => some .ssysRCatchallResc
  | 0x100 => some .ssysRCatchallRcgc0
  | 0x104 => some .ssysRCatchallRcgc1
  | 0x108 => some .ssysRCatchallRcgc2
  | 0x110 => some .ssysRCatchallScgc0
  | 0x114 => some .ssysRCatchallScgc1
  | 0x118 => some .ssysRCatchallScgc2
  | 0x120 => some .ssysRCatchallDcgc0
  | 0x124 => some .ssysRCatchallDcgc1
  | 0x128 => some .ssysRCatchallDcgc2
  | 0x150 => some .ssysRCatchallClkvclr
  | 0x160 => some .ssysRCatchallLdoarst
  | 0x1E0 => some .ssysRCatchallUser0
  | 0x1E4 => some .ssysRCatchallUser1
  | _ => none

/-- The row of the SSYS map at offset `o`, write side (30_encoding.md R93). -/
def ssysWriteRow (v : Word) (o : Nat) : Option Instr :=
  match o with
  | 0x000 => some (.ssysWDid0 v)
  | 0x004 => some (.ssysWDid1 v)
  | 0x008 => some (.ssysWDc0 v)
  | 0x010 => some (.ssysWDc1 v)
  | 0x014 => some (.ssysWDc2 v)
  | 0x018 => some (.ssysWDc3 v)
  | 0x01C => some (.ssysWDc4 v)
  | 0x060 => some (.ssysWRcc v)
  | 0x068 => some (.ssysWClkcfg v)
  | 0x070 => some (.ssysWRcc2 v)
  | 0x030 => some (.ssysWCatchallPborctl v)
  | 0x034 => some (.ssysWCatchallLdopctl v)
  | 0x040 => some (.ssysWCatchallSrcr0 v)
  | 0x044 => some (.ssysWCatchallSrcr1 v)
  | 0x048 => some (.ssysWCatchallSrcr2 v)
  | 0x050 => some (.ssysWCatchallRis v)
  | 0x054 => some (.ssysWCatchallImc v)
  | 0x058 => some (.ssysWCatchallMisc v)
  | 0x05C => some (.ssysWCatchallResc v)
  | 0x100 => some (.ssysWCatchallRcgc0 v)
  | 0x104 => some (.ssysWCatchallRcgc1 v)
  | 0x108 => some (.ssysWCatchallRcgc2 v)
  | 0x110 => some (.ssysWCatchallScgc0 v)
  | 0x114 => some (.ssysWCatchallScgc1 v)
  | 0x118 => some (.ssysWCatchallScgc2 v)
  | 0x120 => some (.ssysWCatchallDcgc0 v)
  | 0x124 => some (.ssysWCatchallDcgc1 v)
  | 0x128 => some (.ssysWCatchallDcgc2 v)
  | 0x150 => some (.ssysWCatchallClkvclr v)
  | 0x160 => some (.ssysWCatchallLdoarst v)
  | 0x1E0 => some (.ssysWCatchallUser0 v)
  | 0x1E4 => some (.ssysWCatchallUser1 v)
  | _ => none

/-- The row of the I2C map at offset `o`, read side (30_encoding.md R94). -/
def i2cReadRow (o : Nat) : Option Instr :=
  match o with
  | 0x000 => some .i2cRMsa
  | 0x004 => some .i2cRMcs
  | 0x008 => some .i2cRMdr
  | 0x00C => some .i2cRMtpr
  | 0x010 => some .i2cRMimr
  | 0x014 => some .i2cRMris
  | 0x018 => some .i2cRMmis
  | 0x01C => some .i2cRMicr
  | 0x020 => some .i2cRMcr
  | _ => none

/-- The row of the I2C map at offset `o`, write side (30_encoding.md R94). -/
def i2cWriteRow (v : Word) (o : Nat) : Option Instr :=
  match o with
  | 0x000 => some (.i2cWMsa v)
  | 0x004 => some (.i2cWMcs v)
  | 0x008 => some (.i2cWMdr v)
  | 0x00C => some (.i2cWMtpr v)
  | 0x010 => some (.i2cWMimr v)
  | 0x014 => some (.i2cWMris v)
  | 0x018 => some (.i2cWMmis v)
  | 0x01C => some (.i2cWMicr v)
  | 0x020 => some (.i2cWMcr v)
  | _ => none

/-- The row of the ADC map at offset `o`, read side (30_encoding.md R95). -/
def adcReadRow (o : Nat) : Option Instr :=
  match o with
  | 0x000 => some .adcRActss
  | 0x004 => some .adcRRis
  | 0x008 => some .adcRIm
  | 0x00C => some .adcRIsc
  | 0x010 => some .adcROstat
  | 0x014 => some .adcREmux
  | 0x018 => some .adcRUstat
  | 0x020 => some .adcRSspri
  | 0x028 => some .adcRPssi
  | 0x030 => some .adcRSac
  | 0x040 => some .adcRSsmux0
  | 0x044 => some .adcRSsctl0
  | 0x048 => some .adcRSsfifo0
  | 0x04C => some .adcRSsfstat0
  | 0x060 => some .adcRSsmux1
  | 0x064 => some .adcRSsctl1
  | 0x068 => some .adcRSsfifo1
  | 0x06C => some .adcRSsfstat1
  | 0x080 => some .adcRSsmux2
  | 0x084 => some .adcRSsctl2
  | 0x088 => some .adcRSsfifo2
  | 0x08C => some .adcRSsfstat2
  | 0x0A0 => some .adcRSsmux3
  | 0x0A4 => some .adcRSsctl3
  | 0x0A8 => some .adcRSsfifo3
  | 0x0AC => some .adcRSsfstat3
  | _ => none

/-- The row of the ADC map at offset `o`, write side (30_encoding.md R95). -/
def adcWriteRow (v : Word) (o : Nat) : Option Instr :=
  match o with
  | 0x000 => some (.adcWActss v)
  | 0x004 => some (.adcWRis v)
  | 0x008 => some (.adcWIm v)
  | 0x00C => some (.adcWIsc v)
  | 0x010 => some (.adcWOstat v)
  | 0x014 => some (.adcWEmux v)
  | 0x018 => some (.adcWUstat v)
  | 0x020 => some (.adcWSspri v)
  | 0x028 => some (.adcWPssi v)
  | 0x030 => some (.adcWSac v)
  | 0x040 => some (.adcWSsmux0 v)
  | 0x044 => some (.adcWSsctl0 v)
  | 0x048 => some (.adcWSsfifo0 v)
  | 0x04C => some (.adcWSsfstat0 v)
  | 0x060 => some (.adcWSsmux1 v)
  | 0x064 => some (.adcWSsctl1 v)
  | 0x068 => some (.adcWSsfifo1 v)
  | 0x06C => some (.adcWSsfstat1 v)
  | 0x080 => some (.adcWSsmux2 v)
  | 0x084 => some (.adcWSsctl2 v)
  | 0x088 => some (.adcWSsfifo2 v)
  | 0x08C => some (.adcWSsfstat2 v)
  | 0x0A0 => some (.adcWSsmux3 v)
  | 0x0A4 => some (.adcWSsctl3 v)
  | 0x0A8 => some (.adcWSsfifo3 v)
  | 0x0AC => some (.adcWSsfstat3 v)
  | _ => none

/-- The operation of an access: the map's row, or the undefined-offset operation (30_encoding.md R91, R96). -/
def decodeAccess (b : Block) (d : Dir) (off : BitVec 12) (n : Nat) (v : Word) : Instr :=
  match b, d with
  | .gptm, .read => (gptmReadRow n off.toNat).getD (.gptmRUndef n off)
  | .gptm, .write => (gptmWriteRow n v off.toNat).getD (.gptmWUndef n off v)
  | .ssys, .read => (ssysReadRow off.toNat).getD (.ssysRUndef off)
  | .ssys, .write => (ssysWriteRow v off.toNat).getD (.ssysWUndef off v)
  | .i2c, .read => (i2cReadRow off.toNat).getD (.i2cRUndef off)
  | .i2c, .write => (i2cWriteRow v off.toNat).getD (.i2cWUndef off v)
  | .adc, .read => (adcReadRow off.toNat).getD (.adcRUndef off)
  | .adc, .write => (adcWriteRow v off.toNat).getD (.adcWUndef off v)

/-- The operation of an event code (30_encoding.md R97). -/
def decodeEvent (b : Block) (code : BitVec 12) (n : Nat) (v : Word) : Option Instr :=
  match b, code.toNat with
  | .gptm, 0x000 => some (.gptmEvFireA n)
  | .gptm, 0x001 => some (.gptmEvFireB n)
  | .gptm, 0xFFE => some (.gptmEvRestore n v)
  | .gptm, 0xFFF => some (.gptmEvReset n)
  | .ssys, 0xFFE => some (.ssysEvRestore v)
  | .ssys, 0xFFF => some .ssysEvReset
  | .i2c, 0xFFE => some (.i2cEvRestore v)
  | .i2c, 0xFFF => some .i2cEvReset
  | .adc, 0x000 => some .adcEvTrigger
  | .adc, 0xFFE => some (.adcEvRestore v)
  | .adc, 0xFFF => some .adcEvReset
  | _, _ => none

/-- The operation that a word and its operands name (30_encoding.md R91). -/
def decode (r : OpRequest) : Except DecodeError Instr :=
  if kindField r.word = 0#1 then
    .ok (decodeAccess (Block.ofBits (blockField r.word)) (Dir.ofBit (dirField r.word)) (offsetField r.word) r.inst r.data)
  else if dirField r.word = 0#1 then
    match decodeEvent (Block.ofBits (blockField r.word)) (offsetField r.word) r.inst r.data with
    | some i => .ok i
    | none => .error (.noSuchEvent r.word)
  else .error (.noSuchEvent r.word)

/-- The word and operands of an operation (30_encoding.md R90, R92 to R97); an operand an operation does not have is 0. -/
def encode (i : Instr) : OpRequest :=
  match i with
  | .gptmRCfg n => ⟨accessWord .gptm .read 0x000#12, n, 0#32⟩
  | .gptmRTamr n => ⟨accessWord .gptm .read 0x004#12, n, 0#32⟩
  | .gptmRTbmr n => ⟨accessWord .gptm .read 0x008#12, n, 0#32⟩
  | .gptmRCtl n => ⟨accessWord .gptm .read 0x00C#12, n, 0#32⟩
  | .gptmRImr n => ⟨accessWord .gptm .read 0x018#12, n, 0#32⟩
  | .gptmRRis n => ⟨accessWord .gptm .read 0x01C#12, n, 0#32⟩
  | .gptmRMis n => ⟨accessWord .gptm .read 0x020#12, n, 0#32⟩
  | .gptmRIcr n => ⟨accessWord .gptm .read 0x024#12, n, 0#32⟩
  | .gptmRTailr n => ⟨accessWord .gptm .read 0x028#12, n, 0#32⟩
  | .gptmRTbilr n => ⟨accessWord .gptm .read 0x02C#12, n, 0#32⟩
  | .gptmRTamatchr n => ⟨accessWord .gptm .read 0x030#12, n, 0#32⟩
  | .gptmRTbmatchr n => ⟨accessWord .gptm .read 0x034#12, n, 0#32⟩
  | .gptmRTapr n => ⟨accessWord .gptm .read 0x038#12, n, 0#32⟩
  | .gptmRTbpr n => ⟨accessWord .gptm .read 0x03C#12, n, 0#32⟩
  | .gptmRTapmr n => ⟨accessWord .gptm .read 0x040#12, n, 0#32⟩
  | .gptmRTbpmr n => ⟨accessWord .gptm .read 0x044#12, n, 0#32⟩
  | .gptmRTar n => ⟨accessWord .gptm .read 0x048#12, n, 0#32⟩
  | .gptmRTbr n => ⟨accessWord .gptm .read 0x04C#12, n, 0#32⟩
  | .gptmWCfg n v => ⟨accessWord .gptm .write 0x000#12, n, v⟩
  | .gptmWTamr n v => ⟨accessWord .gptm .write 0x004#12, n, v⟩
  | .gptmWTbmr n v => ⟨accessWord .gptm .write 0x008#12, n, v⟩
  | .gptmWCtl n v => ⟨accessWord .gptm .write 0x00C#12, n, v⟩
  | .gptmWImr n v => ⟨accessWord .gptm .write 0x018#12, n, v⟩
  | .gptmWRis n v => ⟨accessWord .gptm .write 0x01C#12, n, v⟩
  | .gptmWMis n v => ⟨accessWord .gptm .write 0x020#12, n, v⟩
  | .gptmWIcr n v => ⟨accessWord .gptm .write 0x024#12, n, v⟩
  | .gptmWTailr n v => ⟨accessWord .gptm .write 0x028#12, n, v⟩
  | .gptmWTbilr n v => ⟨accessWord .gptm .write 0x02C#12, n, v⟩
  | .gptmWTamatchr n v => ⟨accessWord .gptm .write 0x030#12, n, v⟩
  | .gptmWTbmatchr n v => ⟨accessWord .gptm .write 0x034#12, n, v⟩
  | .gptmWTapr n v => ⟨accessWord .gptm .write 0x038#12, n, v⟩
  | .gptmWTbpr n v => ⟨accessWord .gptm .write 0x03C#12, n, v⟩
  | .gptmWTapmr n v => ⟨accessWord .gptm .write 0x040#12, n, v⟩
  | .gptmWTbpmr n v => ⟨accessWord .gptm .write 0x044#12, n, v⟩
  | .gptmWTar n v => ⟨accessWord .gptm .write 0x048#12, n, v⟩
  | .gptmWTbr n v => ⟨accessWord .gptm .write 0x04C#12, n, v⟩
  | .gptmRUndef n off => ⟨accessWord .gptm .read off, n, 0#32⟩
  | .gptmWUndef n off v => ⟨accessWord .gptm .write off, n, v⟩
  | .ssysRDid0 => ⟨accessWord .ssys .read 0x000#12, 0, 0#32⟩
  | .ssysRDid1 => ⟨accessWord .ssys .read 0x004#12, 0, 0#32⟩
  | .ssysRDc0 => ⟨accessWord .ssys .read 0x008#12, 0, 0#32⟩
  | .ssysRDc1 => ⟨accessWord .ssys .read 0x010#12, 0, 0#32⟩
  | .ssysRDc2 => ⟨accessWord .ssys .read 0x014#12, 0, 0#32⟩
  | .ssysRDc3 => ⟨accessWord .ssys .read 0x018#12, 0, 0#32⟩
  | .ssysRDc4 => ⟨accessWord .ssys .read 0x01C#12, 0, 0#32⟩
  | .ssysRRcc => ⟨accessWord .ssys .read 0x060#12, 0, 0#32⟩
  | .ssysRClkcfg => ⟨accessWord .ssys .read 0x068#12, 0, 0#32⟩
  | .ssysRRcc2 => ⟨accessWord .ssys .read 0x070#12, 0, 0#32⟩
  | .ssysRCatchallPborctl => ⟨accessWord .ssys .read 0x030#12, 0, 0#32⟩
  | .ssysRCatchallLdopctl => ⟨accessWord .ssys .read 0x034#12, 0, 0#32⟩
  | .ssysRCatchallSrcr0 => ⟨accessWord .ssys .read 0x040#12, 0, 0#32⟩
  | .ssysRCatchallSrcr1 => ⟨accessWord .ssys .read 0x044#12, 0, 0#32⟩
  | .ssysRCatchallSrcr2 => ⟨accessWord .ssys .read 0x048#12, 0, 0#32⟩
  | .ssysRCatchallRis => ⟨accessWord .ssys .read 0x050#12, 0, 0#32⟩
  | .ssysRCatchallImc => ⟨accessWord .ssys .read 0x054#12, 0, 0#32⟩
  | .ssysRCatchallMisc => ⟨accessWord .ssys .read 0x058#12, 0, 0#32⟩
  | .ssysRCatchallResc => ⟨accessWord .ssys .read 0x05C#12, 0, 0#32⟩
  | .ssysRCatchallRcgc0 => ⟨accessWord .ssys .read 0x100#12, 0, 0#32⟩
  | .ssysRCatchallRcgc1 => ⟨accessWord .ssys .read 0x104#12, 0, 0#32⟩
  | .ssysRCatchallRcgc2 => ⟨accessWord .ssys .read 0x108#12, 0, 0#32⟩
  | .ssysRCatchallScgc0 => ⟨accessWord .ssys .read 0x110#12, 0, 0#32⟩
  | .ssysRCatchallScgc1 => ⟨accessWord .ssys .read 0x114#12, 0, 0#32⟩
  | .ssysRCatchallScgc2 => ⟨accessWord .ssys .read 0x118#12, 0, 0#32⟩
  | .ssysRCatchallDcgc0 => ⟨accessWord .ssys .read 0x120#12, 0, 0#32⟩
  | .ssysRCatchallDcgc1 => ⟨accessWord .ssys .read 0x124#12, 0, 0#32⟩
  | .ssysRCatchallDcgc2 => ⟨accessWord .ssys .read 0x128#12, 0, 0#32⟩
  | .ssysRCatchallClkvclr => ⟨accessWord .ssys .read 0x150#12, 0, 0#32⟩
  | .ssysRCatchallLdoarst => ⟨accessWord .ssys .read 0x160#12, 0, 0#32⟩
  | .ssysRCatchallUser0 => ⟨accessWord .ssys .read 0x1E0#12, 0, 0#32⟩
  | .ssysRCatchallUser1 => ⟨accessWord .ssys .read 0x1E4#12, 0, 0#32⟩
  | .ssysWDid0 v => ⟨accessWord .ssys .write 0x000#12, 0, v⟩
  | .ssysWDid1 v => ⟨accessWord .ssys .write 0x004#12, 0, v⟩
  | .ssysWDc0 v => ⟨accessWord .ssys .write 0x008#12, 0, v⟩
  | .ssysWDc1 v => ⟨accessWord .ssys .write 0x010#12, 0, v⟩
  | .ssysWDc2 v => ⟨accessWord .ssys .write 0x014#12, 0, v⟩
  | .ssysWDc3 v => ⟨accessWord .ssys .write 0x018#12, 0, v⟩
  | .ssysWDc4 v => ⟨accessWord .ssys .write 0x01C#12, 0, v⟩
  | .ssysWRcc v => ⟨accessWord .ssys .write 0x060#12, 0, v⟩
  | .ssysWClkcfg v => ⟨accessWord .ssys .write 0x068#12, 0, v⟩
  | .ssysWRcc2 v => ⟨accessWord .ssys .write 0x070#12, 0, v⟩
  | .ssysWCatchallPborctl v => ⟨accessWord .ssys .write 0x030#12, 0, v⟩
  | .ssysWCatchallLdopctl v => ⟨accessWord .ssys .write 0x034#12, 0, v⟩
  | .ssysWCatchallSrcr0 v => ⟨accessWord .ssys .write 0x040#12, 0, v⟩
  | .ssysWCatchallSrcr1 v => ⟨accessWord .ssys .write 0x044#12, 0, v⟩
  | .ssysWCatchallSrcr2 v => ⟨accessWord .ssys .write 0x048#12, 0, v⟩
  | .ssysWCatchallRis v => ⟨accessWord .ssys .write 0x050#12, 0, v⟩
  | .ssysWCatchallImc v => ⟨accessWord .ssys .write 0x054#12, 0, v⟩
  | .ssysWCatchallMisc v => ⟨accessWord .ssys .write 0x058#12, 0, v⟩
  | .ssysWCatchallResc v => ⟨accessWord .ssys .write 0x05C#12, 0, v⟩
  | .ssysWCatchallRcgc0 v => ⟨accessWord .ssys .write 0x100#12, 0, v⟩
  | .ssysWCatchallRcgc1 v => ⟨accessWord .ssys .write 0x104#12, 0, v⟩
  | .ssysWCatchallRcgc2 v => ⟨accessWord .ssys .write 0x108#12, 0, v⟩
  | .ssysWCatchallScgc0 v => ⟨accessWord .ssys .write 0x110#12, 0, v⟩
  | .ssysWCatchallScgc1 v => ⟨accessWord .ssys .write 0x114#12, 0, v⟩
  | .ssysWCatchallScgc2 v => ⟨accessWord .ssys .write 0x118#12, 0, v⟩
  | .ssysWCatchallDcgc0 v => ⟨accessWord .ssys .write 0x120#12, 0, v⟩
  | .ssysWCatchallDcgc1 v => ⟨accessWord .ssys .write 0x124#12, 0, v⟩
  | .ssysWCatchallDcgc2 v => ⟨accessWord .ssys .write 0x128#12, 0, v⟩
  | .ssysWCatchallClkvclr v => ⟨accessWord .ssys .write 0x150#12, 0, v⟩
  | .ssysWCatchallLdoarst v => ⟨accessWord .ssys .write 0x160#12, 0, v⟩
  | .ssysWCatchallUser0 v => ⟨accessWord .ssys .write 0x1E0#12, 0, v⟩
  | .ssysWCatchallUser1 v => ⟨accessWord .ssys .write 0x1E4#12, 0, v⟩
  | .ssysRUndef off => ⟨accessWord .ssys .read off, 0, 0#32⟩
  | .ssysWUndef off v => ⟨accessWord .ssys .write off, 0, v⟩
  | .i2cRMsa => ⟨accessWord .i2c .read 0x000#12, 0, 0#32⟩
  | .i2cRMcs => ⟨accessWord .i2c .read 0x004#12, 0, 0#32⟩
  | .i2cRMdr => ⟨accessWord .i2c .read 0x008#12, 0, 0#32⟩
  | .i2cRMtpr => ⟨accessWord .i2c .read 0x00C#12, 0, 0#32⟩
  | .i2cRMimr => ⟨accessWord .i2c .read 0x010#12, 0, 0#32⟩
  | .i2cRMris => ⟨accessWord .i2c .read 0x014#12, 0, 0#32⟩
  | .i2cRMmis => ⟨accessWord .i2c .read 0x018#12, 0, 0#32⟩
  | .i2cRMicr => ⟨accessWord .i2c .read 0x01C#12, 0, 0#32⟩
  | .i2cRMcr => ⟨accessWord .i2c .read 0x020#12, 0, 0#32⟩
  | .i2cWMsa v => ⟨accessWord .i2c .write 0x000#12, 0, v⟩
  | .i2cWMcs v => ⟨accessWord .i2c .write 0x004#12, 0, v⟩
  | .i2cWMdr v => ⟨accessWord .i2c .write 0x008#12, 0, v⟩
  | .i2cWMtpr v => ⟨accessWord .i2c .write 0x00C#12, 0, v⟩
  | .i2cWMimr v => ⟨accessWord .i2c .write 0x010#12, 0, v⟩
  | .i2cWMris v => ⟨accessWord .i2c .write 0x014#12, 0, v⟩
  | .i2cWMmis v => ⟨accessWord .i2c .write 0x018#12, 0, v⟩
  | .i2cWMicr v => ⟨accessWord .i2c .write 0x01C#12, 0, v⟩
  | .i2cWMcr v => ⟨accessWord .i2c .write 0x020#12, 0, v⟩
  | .i2cRUndef off => ⟨accessWord .i2c .read off, 0, 0#32⟩
  | .i2cWUndef off v => ⟨accessWord .i2c .write off, 0, v⟩
  | .adcRActss => ⟨accessWord .adc .read 0x000#12, 0, 0#32⟩
  | .adcRRis => ⟨accessWord .adc .read 0x004#12, 0, 0#32⟩
  | .adcRIm => ⟨accessWord .adc .read 0x008#12, 0, 0#32⟩
  | .adcRIsc => ⟨accessWord .adc .read 0x00C#12, 0, 0#32⟩
  | .adcROstat => ⟨accessWord .adc .read 0x010#12, 0, 0#32⟩
  | .adcREmux => ⟨accessWord .adc .read 0x014#12, 0, 0#32⟩
  | .adcRUstat => ⟨accessWord .adc .read 0x018#12, 0, 0#32⟩
  | .adcRSspri => ⟨accessWord .adc .read 0x020#12, 0, 0#32⟩
  | .adcRPssi => ⟨accessWord .adc .read 0x028#12, 0, 0#32⟩
  | .adcRSac => ⟨accessWord .adc .read 0x030#12, 0, 0#32⟩
  | .adcRSsmux0 => ⟨accessWord .adc .read 0x040#12, 0, 0#32⟩
  | .adcRSsctl0 => ⟨accessWord .adc .read 0x044#12, 0, 0#32⟩
  | .adcRSsfifo0 => ⟨accessWord .adc .read 0x048#12, 0, 0#32⟩
  | .adcRSsfstat0 => ⟨accessWord .adc .read 0x04C#12, 0, 0#32⟩
  | .adcRSsmux1 => ⟨accessWord .adc .read 0x060#12, 0, 0#32⟩
  | .adcRSsctl1 => ⟨accessWord .adc .read 0x064#12, 0, 0#32⟩
  | .adcRSsfifo1 => ⟨accessWord .adc .read 0x068#12, 0, 0#32⟩
  | .adcRSsfstat1 => ⟨accessWord .adc .read 0x06C#12, 0, 0#32⟩
  | .adcRSsmux2 => ⟨accessWord .adc .read 0x080#12, 0, 0#32⟩
  | .adcRSsctl2 => ⟨accessWord .adc .read 0x084#12, 0, 0#32⟩
  | .adcRSsfifo2 => ⟨accessWord .adc .read 0x088#12, 0, 0#32⟩
  | .adcRSsfstat2 => ⟨accessWord .adc .read 0x08C#12, 0, 0#32⟩
  | .adcRSsmux3 => ⟨accessWord .adc .read 0x0A0#12, 0, 0#32⟩
  | .adcRSsctl3 => ⟨accessWord .adc .read 0x0A4#12, 0, 0#32⟩
  | .adcRSsfifo3 => ⟨accessWord .adc .read 0x0A8#12, 0, 0#32⟩
  | .adcRSsfstat3 => ⟨accessWord .adc .read 0x0AC#12, 0, 0#32⟩
  | .adcWActss v => ⟨accessWord .adc .write 0x000#12, 0, v⟩
  | .adcWRis v => ⟨accessWord .adc .write 0x004#12, 0, v⟩
  | .adcWIm v => ⟨accessWord .adc .write 0x008#12, 0, v⟩
  | .adcWIsc v => ⟨accessWord .adc .write 0x00C#12, 0, v⟩
  | .adcWOstat v => ⟨accessWord .adc .write 0x010#12, 0, v⟩
  | .adcWEmux v => ⟨accessWord .adc .write 0x014#12, 0, v⟩
  | .adcWUstat v => ⟨accessWord .adc .write 0x018#12, 0, v⟩
  | .adcWSspri v => ⟨accessWord .adc .write 0x020#12, 0, v⟩
  | .adcWPssi v => ⟨accessWord .adc .write 0x028#12, 0, v⟩
  | .adcWSac v => ⟨accessWord .adc .write 0x030#12, 0, v⟩
  | .adcWSsmux0 v => ⟨accessWord .adc .write 0x040#12, 0, v⟩
  | .adcWSsctl0 v => ⟨accessWord .adc .write 0x044#12, 0, v⟩
  | .adcWSsfifo0 v => ⟨accessWord .adc .write 0x048#12, 0, v⟩
  | .adcWSsfstat0 v => ⟨accessWord .adc .write 0x04C#12, 0, v⟩
  | .adcWSsmux1 v => ⟨accessWord .adc .write 0x060#12, 0, v⟩
  | .adcWSsctl1 v => ⟨accessWord .adc .write 0x064#12, 0, v⟩
  | .adcWSsfifo1 v => ⟨accessWord .adc .write 0x068#12, 0, v⟩
  | .adcWSsfstat1 v => ⟨accessWord .adc .write 0x06C#12, 0, v⟩
  | .adcWSsmux2 v => ⟨accessWord .adc .write 0x080#12, 0, v⟩
  | .adcWSsctl2 v => ⟨accessWord .adc .write 0x084#12, 0, v⟩
  | .adcWSsfifo2 v => ⟨accessWord .adc .write 0x088#12, 0, v⟩
  | .adcWSsfstat2 v => ⟨accessWord .adc .write 0x08C#12, 0, v⟩
  | .adcWSsmux3 v => ⟨accessWord .adc .write 0x0A0#12, 0, v⟩
  | .adcWSsctl3 v => ⟨accessWord .adc .write 0x0A4#12, 0, v⟩
  | .adcWSsfifo3 v => ⟨accessWord .adc .write 0x0A8#12, 0, v⟩
  | .adcWSsfstat3 v => ⟨accessWord .adc .write 0x0AC#12, 0, v⟩
  | .adcRUndef off => ⟨accessWord .adc .read off, 0, 0#32⟩
  | .adcWUndef off v => ⟨accessWord .adc .write off, 0, v⟩
  | .gptmEvFireA n => ⟨eventWord .gptm 0x000#12, n, 0#32⟩
  | .gptmEvFireB n => ⟨eventWord .gptm 0x001#12, n, 0#32⟩
  | .gptmEvRestore n k => ⟨eventWord .gptm 0xFFE#12, n, k⟩
  | .gptmEvReset n => ⟨eventWord .gptm 0xFFF#12, n, 0#32⟩
  | .ssysEvRestore k => ⟨eventWord .ssys 0xFFE#12, 0, k⟩
  | .ssysEvReset => ⟨eventWord .ssys 0xFFF#12, 0, 0#32⟩
  | .i2cEvRestore k => ⟨eventWord .i2c 0xFFE#12, 0, k⟩
  | .i2cEvReset => ⟨eventWord .i2c 0xFFF#12, 0, 0#32⟩
  | .adcEvTrigger => ⟨eventWord .adc 0x000#12, 0, 0#32⟩
  | .adcEvRestore k => ⟨eventWord .adc 0xFFE#12, 0, k⟩
  | .adcEvReset => ⟨eventWord .adc 0xFFF#12, 0, 0#32⟩

/-- The operation of the table's word `w`, its operands 0 (30_encoding.md R90: every word is 16 bits). -/
def decodeTableWord (nbits w : Nat) : Option Instr :=
  match decode ⟨BitVec.ofNat 16 (w % 2 ^ nbits), 0, 0#32⟩ with
  | .ok i => some i
  | .error _ => none

end Sys2Proof
end

