-- ==== Sys2Proof/Config.lean ====
section
/-! DEFINITION. What an implementation fixes: every parameter of 00_scope.md R10 as an argument (`Params`, carried by
State and changed by no step; log 9), the spec's decided reset values and masks as named data
(93_implementation_defined.md section 2 asks for them as data), the board identity words (log 8), and the two free values
of the I2C bus collaborator (log 4). -/

namespace Sys2Proof

/-- 00_scope.md R10 `FIRE_TIMING`, used by 20_memory.md R83: `free` lets a fire lag its deadline, `exact` does not. -/
inductive FireTiming where
  | free
  | exact
deriving DecidableEq, Repr

/-- 00_scope.md R10 `ADC_TRIGGER_SOURCES`: the GPTM instances whose trigger output drives the ADC. A board without
an ADC, or with no wire to it, is `only []` (20_memory.md R88; log 24). -/
inductive TriggerSources where
  | all
  | only (instances : List Nat)
deriving DecidableEq, Repr

/-- Is instance `n` in `ADC_TRIGGER_SOURCES` (20_memory.md R88)? -/
def TriggerSources.has (t : TriggerSources) (n : Nat) : Bool :=
  match t with
  | .all => true
  | .only ns => ns.contains n

/-- The quirk flags of 93_implementation_defined.md section 3, all false by default; each replaces exactly the rule
named there. -/
structure Quirks where
  /-- `Q_RTC_ZERO_STATUS` (40_gptm.md R153). -/
  rtcZeroStatus : Bool
  /-- `Q_TBMATCHR_HIGH` (40_gptm.md R139). -/
  tbmatchrHigh : Bool
  /-- `Q_TBPMR_TO_A` (40_gptm.md R125, R143). -/
  tbpmrToA : Bool
  /-- `Q_TAR_CONTROL_TEST` (40_gptm.md R126). -/
  tarControlTest : Bool
  /-- `Q_PWM_IMMEDIATE_FIRE` (40_gptm.md R103). -/
  pwmImmediateFire : Bool
  /-- `Q_ADC_FIFO_TAIL_UNMASKED` (43_adc.md R261). -/
  adcFifoTailUnmasked : Bool
deriving DecidableEq, Repr

/-- All quirk flags false: the spec's own rules. -/
def Quirks.none : Quirks :=
  { rtcZeroStatus := false, tbmatchrHigh := false, tbpmrToA := false, tarControlTest := false
    pwmImmediateFire := false, adcFifoTailUnmasked := false }

/-- The parameters of 00_scope.md R10, which a model takes as arguments (`NUM_GPTM` is the number of GPTM instances in
State, the identity words are fields of SSYS). No step changes them. -/
structure Params where
  /-- `NUM_SEQ`: sequencers 0 to `numSeq - 1` take part in a trigger (values other than 4: log 30). -/
  numSeq : Nat
  /-- `FIFO_CAP`: FIFO index arithmetic is modulo this (43_adc.md R260; values other than 16: log 30). -/
  fifoCap : Nat
  /-- `PWM_SENTINEL`. -/
  pwmSentinel : Word
  /-- `SCALE_MULT`. -/
  scaleMult : Nat
  /-- `LCG_MUL`. -/
  lcgMul : Word
  /-- `LCG_INC`. -/
  lcgInc : Word
  /-- `ADC_EMUX_TIMER`. -/
  adcEmuxTimer : Nat
  /-- `REGION_SIZE` (decision D9; 20_memory.md R71; log 16). -/
  regionSize : Nat
  /-- `TICKS_PER_SECOND` (decision D2). -/
  ticksPerSecond : Nat
  /-- `FIRE_TIMING` (decision D3). -/
  fireTiming : FireTiming
  /-- `GPTM_IMR_WMASK` (decision D22). -/
  gptmImrWmask : Word
  /-- `I2C_MIMR_FIXED` (decision D44). -/
  i2cMimrFixed : Word
  /-- `ADC_SSCTL_SUPPORTED` (decision D54). -/
  adcSsctlSupported : Word
  /-- `ADC_EMUX_CMP_WIDTH` (decision D56). -/
  adcEmuxCmpWidth : Nat
  /-- `ADC_TRIGGER_SOURCES` (OPEN, decision D14). -/
  adcTriggerSources : TriggerSources
  /-- Does a board wire a source other than a GPTM fire to the ADC's trigger input, so that the trigger is a step of its
  own (43_adc.md R305)? No rule of the spec wires one (20_memory.md R82; log 19). -/
  adcTriggerWired : Bool
  /-- `ADC_TRIGGERS_PER_PULSE` (decision D14). -/
  adcTriggersPerPulse : Nat
  /-- `RCC2_IGNORED_ON_SANDSTORM` (OPEN, decision D39). -/
  rcc2IgnoredOnSandstorm : Bool
  /-- The `Q_*` flags (93_implementation_defined.md section 3). -/
  quirks : Quirks
  /-- `BASE_GPTM[i]`, one for each instance, in the order of the instances (OPEN, decision D8). -/
  baseGptm : List Nat
  /-- `BASE_SSYS` (OPEN, decision D8). -/
  baseSsys : Nat
  /-- `BASE_I2C` (OPEN, decision D8). -/
  baseI2c : Nat
  /-- `BASE_ADC` (OPEN, decision D8). -/
  baseAdc : Nat
deriving DecidableEq, Repr

/-- The value column of 00_scope.md R10, `BASE_GPTM[i]` for the four instances that it names as the most a board has. -/
def Params.default : Params :=
  { numSeq := 4
    fifoCap := 16
    pwmSentinel := 0xA#32
    scaleMult := 5
    lcgMul := 314159#32
    lcgInc := 1#32
    adcEmuxTimer := 5
    regionSize := 0x1000
    ticksPerSecond := 1000000000
    fireTiming := .free
    gptmImrWmask := 0x77#32
    i2cMimrFixed := 0x1#32
    adcSsctlSupported := 0x6#32
    adcEmuxCmpWidth := 4
    adcTriggerSources := .all
    adcTriggerWired := false
    adcTriggersPerPulse := 1
    rcc2IgnoredOnSandstorm := false
    quirks := .none
    baseGptm := [0x40030000, 0x40031000, 0x40032000, 0x40033000]
    baseSsys := 0x400FE000
    baseI2c := 0x40020000
    baseAdc := 0x40038000 }

/-- The board identity words of 10_state.md R37, immutable, fixed at construction. -/
structure Board where
  did0 : Word
  did1 : Word
  dc0 : Word
  dc1 : Word
  dc2 : Word
  dc3 : Word
  dc4 : Word
deriving DecidableEq, Repr

/-- The FURY test board of 95_test_vectors.md section 0. -/
def Board.fury : Board :=
  { did0 := 0x10010002#32, did1 := 0x1073402E#32, dc0 := 0x00FF007F#32, dc1 := 0x001133FF#32
    dc2 := 0x030F5317#32, dc3 := 0x0F0F87FF#32, dc4 := 0x5000007F#32 }

/-- The SANDSTORM test board of 95_test_vectors.md section 0. -/
def Board.sandstorm : Board :=
  { did0 := 0x0032000E#32, did1 := 0#32, dc0 := 0#32, dc1 := 0#32, dc2 := 0#32, dc3 := 0#32, dc4 := 0#32 }

namespace Config

/-- `NUM_GPTM` of the machine right after reset (00_scope.md R10; OPEN for boards, log 9). -/
def numGptm : Nat := 1

/-- The constant of the pseudo-sample (43_adc.md R264). -/
def sampleBase : Word := 0x200#32

/-- Reset value of RCC (10_state.md R38). -/
def rccReset : Word := 0x078E3AC0#32

/-- Reset value of RCC2 on a FURY board (41_ssys.md R182). -/
def rcc2ResetFury : Word := 0x07802810#32

/-- Reset value of RCC2 on a SANDSTORM board (41_ssys.md R182). -/
def rcc2ResetSandstorm : Word := 0#32

/-- Reset value of the catch-all word PBORCTL (10_state.md R41). -/
def pborctlReset : Word := 0x7FFD#32

/-- Reset value of RCGC0, SCGC0 and DCGC0 (10_state.md R41). -/
def gatingReset : Word := 0x1#32

/-- Reset value of MTPR (10_state.md R46). -/
def mtprReset : Byte := 1#8

/-- Reset value of a FIFO state word: empty, both indices 0 (10_state.md R58). -/
def fifoReset : Word := 0x100#32

/-- The mask of an SSMUXn write (10_state.md R57). -/
def ssmuxMask : Word := 0x33333333#32

/-- The mask of an MCR write (10_state.md R49). -/
def mcrMask : Word := 0x31#32

/-- The IDLE flag that every MCS read forces (42_i2c.md R226). -/
def mcsIdle : Word := 0x20#32

/-- The PLL-locked mark in the catch-all RIS word (41_ssys.md R202). -/
def pllMark : Word := 0x40#32

/-- FREE VALUE: the `draw` of `bus.acquire` on a bus that no other master holds (42_i2c.md R220,
93_implementation_defined.md U12), for the draw of the given number. Nothing is known of it (log 4). -/
opaque acquireDraw : Nat → Bool

/-- FREE VALUE: the `draw` of `bus.recvByte` (42_i2c.md R220, 93_implementation_defined.md U11), for the draw of the
given number. Nothing is known of it (log 4). -/
opaque recvDraw : Nat → Byte

end Config

end Sys2Proof
end

