-- ==== Sys2Proof/Machine/State.lean ====
section
/-! DEFINITION. The machine's state as plain data: every piece of state of 10_state.md (R20 to R62), the parameters of
00_scope.md R10, the I2C bus collaborator's abstract state (42_i2c.md R220), and the model's own fields that
INVENTORY.md names; the reasons a step can stop; and the state right after `Reset(all)` (70_reset_and_hazards.md R355). -/

namespace Sys2Proof.Machine

/-- A GPTM channel: A is index 0, B is index 1 (00_scope.md R14). -/
inductive Channel where
  | a
  | b
deriving DecidableEq, Repr

/-- Two like things, one for each channel: `x[0]` is `a`, `x[1]` is `b`. -/
structure Pair (α : Type) where
  a : α
  b : α
deriving DecidableEq, Repr

/-- The value of channel `c`. -/
def Pair.get {α : Type} (p : Pair α) (c : Channel) : α :=
  match c with
  | .a => p.a
  | .b => p.b

/-- The pair with channel `c` set to `x`. -/
def Pair.set {α : Type} (p : Pair α) (c : Channel) (x : α) : Pair α :=
  match c with
  | .a => { p with a := x }
  | .b => { p with b := x }

/-- One GPTM instance (10_state.md R24 to R34). -/
structure Gptm where
  /-- CFG (R24). -/
  config : Word
  /-- TAMR, TBMR (R25). -/
  mode : Pair Word
  /-- CTL (R26). -/
  control : Word
  /-- RIS (R27). -/
  rawStatus : Word
  /-- IMR (R28). -/
  interruptMask : Word
  /-- The load halves (R29). -/
  load : Pair Half
  /-- The match halves, `G.match` (R30). -/
  matchReg : Pair Half
  /-- TAPR, TBPR (R31). -/
  prescale : Pair Word
  /-- TAPMR, TBPMR (R31). -/
  matchPrescale : Pair Word
  /-- The RTC counter, read through TAR (R32). -/
  rtcCounter : Word
  /-- The deadlines, in absolute virtual time (R33). -/
  nextDeadline : Pair Nat
  /-- Is a fire of the channel pending (R34)? -/
  armed : Pair Bool
deriving DecidableEq, Repr

/-- The reset value of a GPTM instance (70_reset_and_hazards.md R351). -/
def Gptm.reset : Gptm :=
  { config := 0#32
    mode := ⟨0#32, 0#32⟩
    control := 0#32
    rawStatus := 0#32
    interruptMask := 0#32
    load := ⟨0#16, 0#16⟩
    matchReg := ⟨0#16, 0#16⟩
    prescale := ⟨0#32, 0#32⟩
    matchPrescale := ⟨0#32, 0#32⟩
    rtcCounter := 0#32
    nextDeadline := ⟨0, 0⟩
    armed := ⟨false, false⟩ }

/-- The 22 catch-all registers of SSYS (30_encoding.md R93). -/
inductive CatchallReg where
  | pborctl
  | ldopctl
  | srcr0
  | srcr1
  | srcr2
  | ris
  | imc
  | misc
  | resc
  | rcgc0
  | rcgc1
  | rcgc2
  | scgc0
  | scgc1
  | scgc2
  | dcgc0
  | dcgc1
  | dcgc2
  | clkvclr
  | ldoarst
  | user0
  | user1
deriving DecidableEq, Repr

/-- The catch-all words `S.word[off]` (10_state.md R41), one field for each offset of 30_encoding.md R93. -/
structure CatchallWords where
  /-- `S.word[0x030]`. -/
  pborctl : Word
  /-- `S.word[0x034]`. -/
  ldopctl : Word
  /-- `S.word[0x040]`. -/
  srcr0 : Word
  /-- `S.word[0x044]`. -/
  srcr1 : Word
  /-- `S.word[0x048]`. -/
  srcr2 : Word
  /-- `S.word[0x050]`; bit 6 is the PLL-locked mark. -/
  ris : Word
  /-- `S.word[0x054]`. -/
  imc : Word
  /-- `S.word[0x058]`. -/
  misc : Word
  /-- `S.word[0x05C]`. -/
  resc : Word
  /-- `S.word[0x100]`. -/
  rcgc0 : Word
  /-- `S.word[0x104]`. -/
  rcgc1 : Word
  /-- `S.word[0x108]`. -/
  rcgc2 : Word
  /-- `S.word[0x110]`. -/
  scgc0 : Word
  /-- `S.word[0x114]`. -/
  scgc1 : Word
  /-- `S.word[0x118]`. -/
  scgc2 : Word
  /-- `S.word[0x120]`. -/
  dcgc0 : Word
  /-- `S.word[0x124]`. -/
  dcgc1 : Word
  /-- `S.word[0x128]`. -/
  dcgc2 : Word
  /-- `S.word[0x150]`. -/
  clkvclr : Word
  /-- `S.word[0x160]`. -/
  ldoarst : Word
  /-- `S.word[0x1E0]`. -/
  user0 : Word
  /-- `S.word[0x1E4]`. -/
  user1 : Word
deriving DecidableEq, Repr

/-- The catch-all words after an SSYS reset (70_reset_and_hazards.md R352). -/
def CatchallWords.reset : CatchallWords :=
  { pborctl := Config.pborctlReset
    ldopctl := 0#32
    srcr0 := 0#32
    srcr1 := 0#32
    srcr2 := 0#32
    ris := 0#32
    imc := 0#32
    misc := 0#32
    resc := 0#32
    rcgc0 := Config.gatingReset
    rcgc1 := 0#32
    rcgc2 := 0#32
    scgc0 := Config.gatingReset
    scgc1 := 0#32
    scgc2 := 0#32
    dcgc0 := Config.gatingReset
    dcgc1 := 0#32
    dcgc2 := 0#32
    clkvclr := 0#32
    ldoarst := 0#32
    user0 := 0#32
    user1 := 0#32 }

/-- The SSYS instance (10_state.md R37 to R42). -/
structure Ssys where
  /-- The immutable identity words `did0`, `did1`, `dc0` to `dc4` (R37). -/
  board : Board
  /-- RCC (R38). -/
  rccControl : Word
  /-- CLKCFG (R39). -/
  rccConfig : Word
  /-- RCC2 (R40). -/
  rcc2 : Word
  /-- The catch-all words (R41). -/
  words : CatchallWords
  /-- The derived clock scale (R42). -/
  systemClockScale : Nat
deriving DecidableEq, Repr

/-- What `Save` keeps of SSYS: neither the board words nor the derived scale (70_reset_and_hazards.md R365). -/
structure SsysSnapshot where
  rccControl : Word
  rccConfig : Word
  rcc2 : Word
  words : CatchallWords
deriving DecidableEq, Repr

/-- The I2C master (10_state.md R43 to R49). -/
structure I2c where
  /-- MSA (R43). -/
  slaveAddress : Byte
  /-- MCS, read side, without the forced IDLE bit (R44). -/
  controlStatus : Word
  /-- MDR (R45). -/
  dataRegister : Byte
  /-- MTPR (R46). -/
  timingRegister : Byte
  /-- MIMR (R47). -/
  interruptMask : Word
  /-- MRIS (R48). -/
  rawInterruptStatus : Word
  /-- MCR (R49). -/
  masterConfig : Word
deriving DecidableEq, Repr

/-- The I2C registers after reset (70_reset_and_hazards.md R353). -/
def I2c.reset : I2c :=
  { slaveAddress := 0#8
    controlStatus := 0#32
    dataRegister := 0#8
    timingRegister := Config.mtprReset
    interruptMask := 0#32
    rawInterruptStatus := 0#32
    masterConfig := 0#32 }

/-- Who holds the I2C bus (42_i2c.md R220). -/
inductive BusHolder where
  | none
  | self
  | other
deriving DecidableEq, Repr

/-- A call the controller made to the bus collaborator (42_i2c.md R220), with its answer. The model's own record
(log 14). -/
inductive BusCall where
  /-- `acquire(address, isRead)` and its answer. -/
  | acquire (address : BitVec 7) (isRead : Bool) (success : Bool)
  /-- `sendByte(value)`. -/
  | sendByte (value : Byte)
  /-- `recvByte()` and its answer. -/
  | recvByte (value : Byte)
  /-- `release()`. -/
  | release
deriving DecidableEq, Repr

/-- The I2C bus collaborator (10_state.md R50, 42_i2c.md R220). -/
structure I2cBus where
  /-- Its abstract state. -/
  holder : BusHolder
  /-- The next answer of `acquire`'s draw, where a `BUS acquire=` stimulus has fixed it (30_encoding.md R99). -/
  nextAcquire : Option Bool
  /-- The next answer of `recvByte`, where a `BUS recv=` stimulus has fixed it (30_encoding.md R99). -/
  nextRecv : Option Byte
  /-- The model's own: how many draws were made, so that each is a fresh free value (log 4). -/
  draws : Nat
  /-- The model's own: every call made, oldest first (log 14). -/
  calls : List BusCall
deriving DecidableEq, Repr

/-- The collaborator at the start of a run (log 6). -/
def I2cBus.reset : I2cBus :=
  { holder := .none, nextAcquire := Option.none, nextRecv := Option.none, draws := 0, calls := [] }

/-- One sequencer's FIFO (10_state.md R58, R59). -/
structure Fifo where
  /-- The packed state word SSFSTATn: TPTR 3:0, HPTR 7:4, EMPTY 8, FULL 12. -/
  state : Word
  /-- The 16 sample slots. -/
  data : Vector Word 16
deriving DecidableEq, Repr

/-- An empty FIFO after reset (70_reset_and_hazards.md R354). -/
def Fifo.reset : Fifo :=
  { state := Config.fifoReset, data := Vector.replicate 16 0#32 }

/-- The ADC (10_state.md R51 to R60). -/
structure Adc where
  /-- ACTSS (R51). -/
  activeSequencers : BitVec 4
  /-- RIS (R52). -/
  rawInterruptStatus : Word
  /-- IM (R53). -/
  interruptMask : Word
  /-- EMUX (R54). -/
  sampleSource : Word
  /-- OSTAT (R55). -/
  overflow : Word
  /-- USTAT (R55). -/
  underflow : Word
  /-- SSPRI, `A.priority` (R56). -/
  seqPriority : Word
  /-- SAC (R56). -/
  averaging : Word
  /-- SSMUXn (R57). -/
  mux : Vector Word 4
  /-- SSCTLn (R57). -/
  ctl : Vector Word 4
  /-- The FIFOs (R58, R59). -/
  fifo : Vector Fifo 4
  /-- The noise accumulator (R60). -/
  noise : Word
deriving DecidableEq, Repr

/-- The ADC after reset (70_reset_and_hazards.md R354). -/
def Adc.reset : Adc :=
  { activeSequencers := 0#4
    rawInterruptStatus := 0#32
    interruptMask := 0#32
    sampleSource := 0#32
    overflow := 0#32
    underflow := 0#32
    seqPriority := 0#32
    averaging := 0#32
    mux := Vector.replicate 4 0#32
    ctl := Vector.replicate 4 0#32
    fifo := Vector.replicate 4 Fifo.reset
    noise := 0#32 }

/-- The snapshots that `Save` has produced, oldest first, one list for each kind of block
(70_reset_and_hazards.md R365; log 12). -/
structure Saved where
  gptm : List Gptm
  ssys : List SsysSnapshot
  i2c : List I2c
  adc : List Adc
deriving DecidableEq, Repr

/-- The 13 fault codes of 60_exceptions.md R311. -/
inductive FaultCode where
  | accessSize
  | gptmBadOffset
  | gptmTimerValue
  | gptmMode
  | gptmReconfig
  | ssysBadOffset
  | ssysBoardClass
  | i2cBadOffset
  | i2cLoopback
  | i2cSlaveMode
  | adcBadOffset
  | adcSequence
  | adcPssi
deriving DecidableEq, Repr

/-- The number of a fault code (60_exceptions.md R311). -/
def FaultCode.number : FaultCode → Nat
  | .accessSize => 1
  | .gptmBadOffset => 2
  | .gptmTimerValue => 3
  | .gptmMode => 4
  | .gptmReconfig => 5
  | .ssysBadOffset => 6
  | .ssysBoardClass => 7
  | .i2cBadOffset => 8
  | .i2cLoopback => 9
  | .i2cSlaveMode => 10
  | .adcBadOffset => 11
  | .adcSequence => 12
  | .adcPssi => 13

/-- One step that an agent has placed (20_memory.md R82, 30_encoding.md R99). The order of the list `State.pending`
is the total order of the run (20_memory.md R77). -/
inductive Stimulus where
  /-- A host `BusRead` or `BusWrite` of `size` bytes at offset `off` of a block; `n` is the GPTM instance and `v`
  the bus data (20_memory.md R72). -/
  | access (d : Dir) (b : Block) (n off size : Nat) (v : Word)
  /-- An internal event: `e` is the low 15 bits of the event word, whose bit 15 is 1 (30_encoding.md R97); `n` is the
  GPTM instance, `k` the number of the saved snapshot that a RESTORE takes (log 2, log 12). -/
  | event (e : BitVec 15) (n : Nat) (k : Word)
  /-- `Advance(t)`. -/
  | advance (t : Nat)
  /-- `Reset(all)` (70_reset_and_hazards.md R355). -/
  | resetAll
  /-- `Save(blk)`; `n` is the GPTM instance (70_reset_and_hazards.md R365). -/
  | save (b : Block) (n : Nat)
  /-- Environment step of the I2C bus, `holder: none -> other` (42_i2c.md R220), and `BUS busy=1` (log 32). -/
  | busTaken
  /-- Environment step of the I2C bus, `holder: other -> none` (42_i2c.md R220), and `BUS busy=0` (log 32). -/
  | busLetGo
  /-- `BUS acquire=ok|fail` (30_encoding.md R99). -/
  | answerAcquire (ok : Bool)
  /-- `BUS recv=<byte>` (30_encoding.md R99). -/
  | answerRecv (b : Byte)
deriving DecidableEq, Repr

/-- Why the machine stops with a fault. -/
inductive Fault where
  /-- Raised by `step` at a state whose `faulted` is already set: no step of any agent is enabled any more
  (20_memory.md R87, 60_exceptions.md R312). It carries the recorded code. Safe: the hardware has no step here either.
  Raising a hardware fault itself is a NEXT state with `faulted` set (log 3). -/
  | halted (code : FaultCode)
deriving DecidableEq, Repr

/-- Why the model takes no step. -/
inductive Refusal where
  /-- An operation of the table without a meaning, by its mnemonic; no arm of exec answers so. Safe. -/
  | notModelled (mnemonic : String)
  /-- An event word that is no row of 30_encoding.md R97 (R91, U17); raised when a word is decoded. Safe. -/
  | noSuchEvent (word : BitVec 16)
  /-- A GPTM instance the board does not have (00_scope.md R10 `NUM_GPTM`); raised by every GPTM operation, by a
  save of it, and before an access to it is checked (log 23). Safe. -/
  | noSuchInstance (n : Nat)
  /-- A fire whose channel is not armed, or armed past `now`: that step is not enabled (20_memory.md R83); raised by
  FIRE_A and FIRE_B. Safe. -/
  | fireNotEnabled
  /-- A RESTORE of a snapshot that no `Save` produced (70_reset_and_hazards.md R366, U18). Safe. -/
  | noSuchSnapshot (k : Nat)
  /-- `Advance(t)` with `t < now` (20_memory.md R82). Safe. -/
  | timeBackwards
  /-- Under `FIRE_TIMING = exact`: an advance past an armed deadline, or an access, reset or save while an armed
  deadline equals `now` (20_memory.md R83). Safe. -/
  | fireDueFirst
  /-- The ADC trigger event as a step of its own, on a board that wires no other source to the trigger input: it runs only
  inside the fire that pulses it (20_memory.md R82, 43_adc.md R305; log 19). Safe. -/
  | triggerNotAStep
  /-- A bus environment step that the bus holder does not allow (42_i2c.md R220), and so a `BUS busy=0|1` that names one
  (30_encoding.md R99; log 32). Safe. -/
  | busStepNotEnabled
  /-- No agent has placed a step (20_memory.md R82: no block takes a step by itself). Safe (log 25). -/
  | noStimulus
deriving DecidableEq, Repr

/-- The whole machine. -/
structure State where
  /-- The parameters of 00_scope.md R10; no step changes them (log 9). -/
  params : Params
  /-- The virtual time (10_state.md R22). -/
  now : Nat
  /-- The fault that ended the run, if one did (10_state.md R23). -/
  faulted : Option FaultCode
  /-- The GPTM instances; their number is `NUM_GPTM` (60_exceptions.md R327). -/
  gptm : List Gptm
  /-- The system controller. -/
  ssys : Ssys
  /-- The I2C master. -/
  i2c : I2c
  /-- The I2C bus collaborator. -/
  bus : I2cBus
  /-- The ADC. -/
  adc : Adc
  /-- The model's own: what the last completed BusRead returned (log 13). -/
  readData : Word
  /-- The model's own: the snapshots that Save produced (log 12). -/
  saved : Saved
  /-- The model's own: the steps the agents have placed, next first (log 1). -/
  pending : List Stimulus
deriving DecidableEq, Repr

/-- What a step of this machine answers. -/
abbrev Result := Host.Outcome State Fault Refusal

/-- The machine right after `Reset(all)` on the FURY board (70_reset_and_hazards.md R350 to R355; log 6, 7, 8, 9). -/
def State.reset : State :=
  { params := Params.default
    now := 0
    faulted := none
    gptm := List.replicate Config.numGptm Gptm.reset
    ssys :=
      { board := Board.fury
        rccControl := Config.rccReset
        rccConfig := 0#32
        rcc2 := Config.rcc2ResetFury
        words := CatchallWords.reset
        systemClockScale := 80 }
    i2c := I2c.reset
    bus := I2cBus.reset
    adc := Adc.reset
    readData := 0#32
    saved := { gptm := [], ssys := [], i2c := [], adc := [] }
    pending := [] }

end Sys2Proof.Machine
end

