-- ==== Sys2Proof/Machine/Operands.lean ====
section
/-! DEFINITION. Every operand form of the hardware: the slices of the written value `v` (30_encoding.md R98), the
combination of 16-bit halves (40_gptm.md R101), the fields of the registers that a rule reads, and the bit and field
updates that the rules write as `x[k] <- b` and `x[hi:lo] <- y` (00_scope.md R11, R12). -/

namespace Sys2Proof.Machine

/-- `v[k]` (00_scope.md R11). -/
def bit (v : Word) (k : Nat) : Bool := v.getLsbD k

/-- `x[k] <- b` on a 32-bit value (00_scope.md R12). -/
def setBit (x : Word) (k : Nat) (b : Bool) : Word :=
  if b then x ||| (1#32 <<< k) else x &&& ~~~(1#32 <<< k)

/-- `v[15:0]` (30_encoding.md R98). -/
def low16 (v : Word) : Half := v.extractLsb' 0 16

/-- `v[31:16]` (30_encoding.md R98). -/
def high16 (v : Word) : Half := v.extractLsb' 16 16

/-- `v[7:0]` (30_encoding.md R98). -/
def low8 (v : Word) : Byte := v.extractLsb' 0 8

/-- `v[3:0]` (30_encoding.md R98). -/
def low4 (v : Word) : BitVec 4 := v.extractLsb' 0 4

/-- `zext_32` of a half (00_scope.md R11). -/
def zextHalf (h : Half) : Word := h.setWidth 32

/-- `zext_32` of a byte (00_scope.md R11). -/
def zextByte (b : Byte) : Word := b.setWidth 32

/-- `zext_32` of a 4-bit field (00_scope.md R11). -/
def zextNibble (b : BitVec 4) : Word := b.setWidth 32

/-- `comb(x)`: the 32-bit value of a pair of halves (40_gptm.md R101). -/
def comb (p : Pair Half) : Word := zextHalf p.a ||| (zextHalf p.b <<< 16)

/-- Are the load and match registers in their combined 32-bit form: `config < 4` (10_state.md R29)? -/
def combined (config : Word) : Bool := decide (config.toNat < 4)

/-- A write to TAILR or TAMATCHR: the low half always, the high half while `config < 4` (40_gptm.md R136, R138). -/
def writeHalves (config : Word) (p : Pair Half) (v : Word) : Pair Half :=
  if combined config then { a := low16 v, b := high16 v } else { p with a := low16 v }

/-- A read of TAILR or TAMATCHR (40_gptm.md R118, R120). -/
def readHalves (config : Word) (p : Pair Half) : Word :=
  if combined config then comb p else zextHalf p.a

/-- SYSDIV, `rcc[26:23]` (10_state.md R38). -/
def sysdiv (rcc : Word) : BitVec 4 := rcc.extractLsb' 23 4

/-- SYSDIV2, `rcc2[28:23]` (10_state.md R40). -/
def sysdiv2 (rcc2 : Word) : BitVec 6 := rcc2.extractLsb' 23 6

/-- VER, `did0[30:28]` (41_ssys.md R182). -/
def didVersion (did0 : Word) : BitVec 3 := did0.extractLsb' 28 3

/-- CLASS, `did0[23:16]` (41_ssys.md R182). -/
def didClass (did0 : Word) : BitVec 8 := did0.extractLsb' 16 8

/-- What a CLKCFG write stores: SEL_REQ captured into SEL_CUR (41_ssys.md R203). -/
def clkcfgValue (v : Word) : Word :=
  (v &&& ~~~0xC#32) ||| ((v.extractLsb' 0 2).setWidth 32 <<< 2)

/-- `slaveAddress[7:1]` (42_i2c.md R220). -/
def slaveAddressField (msa : Byte) : BitVec 7 := msa.extractLsb' 1 7

/-- `slaveAddress[0]`, true for a receive (10_state.md R43). -/
def slaveIsRead (msa : Byte) : Bool := msa.getLsbD 0

/-- The trigger-source selector of sequencer `n`, `ADC_EMUX_CMP_WIDTH` bits wide from bit 4n (43_adc.md R263). -/
def emuxField (sampleSource : Word) (width n : Nat) : Nat :=
  (sampleSource.toNat >>> (4 * n)) % 2 ^ width

/-- TPTR, the tail index of a FIFO state word (10_state.md R58). -/
def fifoTail (st : Word) : BitVec 4 := st.extractLsb' 0 4

/-- HPTR, the head index of a FIFO state word (10_state.md R58). -/
def fifoHead (st : Word) : BitVec 4 := st.extractLsb' 4 4

/-- `state[3:0] <- t` (43_adc.md R261). -/
def setTail (st : Word) (t : BitVec 4) : Word := (st &&& ~~~0xF#32) ||| zextNibble t

/-- `state[7:4] <- h` (43_adc.md R262). -/
def setHead (st : Word) (h : BitVec 4) : Word := (st &&& ~~~0xF0#32) ||| (zextNibble h <<< 4)

/-- The catch-all word of a register (10_state.md R41). -/
def CatchallWords.get (w : CatchallWords) (r : CatchallReg) : Word :=
  match r with
  | .pborctl => w.pborctl
  | .ldopctl => w.ldopctl
  | .srcr0 => w.srcr0
  | .srcr1 => w.srcr1
  | .srcr2 => w.srcr2
  | .ris => w.ris
  | .imc => w.imc
  | .misc => w.misc
  | .resc => w.resc
  | .rcgc0 => w.rcgc0
  | .rcgc1 => w.rcgc1
  | .rcgc2 => w.rcgc2
  | .scgc0 => w.scgc0
  | .scgc1 => w.scgc1
  | .scgc2 => w.scgc2
  | .dcgc0 => w.dcgc0
  | .dcgc1 => w.dcgc1
  | .dcgc2 => w.dcgc2
  | .clkvclr => w.clkvclr
  | .ldoarst => w.ldoarst
  | .user0 => w.user0
  | .user1 => w.user1

/-- The catch-all words with one register's word replaced (41_ssys.md R205). -/
def CatchallWords.set (w : CatchallWords) (r : CatchallReg) (v : Word) : CatchallWords :=
  match r with
  | .pborctl => { w with pborctl := v }
  | .ldopctl => { w with ldopctl := v }
  | .srcr0 => { w with srcr0 := v }
  | .srcr1 => { w with srcr1 := v }
  | .srcr2 => { w with srcr2 := v }
  | .ris => { w with ris := v }
  | .imc => { w with imc := v }
  | .misc => { w with misc := v }
  | .resc => { w with resc := v }
  | .rcgc0 => { w with rcgc0 := v }
  | .rcgc1 => { w with rcgc1 := v }
  | .rcgc2 => { w with rcgc2 := v }
  | .scgc0 => { w with scgc0 := v }
  | .scgc1 => { w with scgc1 := v }
  | .scgc2 => { w with scgc2 := v }
  | .dcgc0 => { w with dcgc0 := v }
  | .dcgc1 => { w with dcgc1 := v }
  | .dcgc2 => { w with dcgc2 := v }
  | .clkvclr => { w with clkvclr := v }
  | .ldoarst => { w with ldoarst := v }
  | .user0 => { w with user0 := v }
  | .user1 => { w with user1 := v }

end Sys2Proof.Machine
end

