-- ==== Sys2Proof/Machine/Flags.lean ====
section
/-! DEFINITION. Every status bit and interrupt line of the hardware: which bit each status flag is (10_state.md R26, R27,
R44, R48, R49, R52, R55, R58), masked status, write-one-to-clear, and the combinational lines (60_exceptions.md R315 to
R319). -/

namespace Sys2Proof.Machine

/-- A W1C write: the stored bits that are set in `v` are cleared (00_scope.md R14). -/
def w1c (status v : Word) : Word := status &&& ~~~v

/-- A masked status value, `raw & mask` (40_gptm.md R116, 42_i2c.md R231, 43_adc.md R273). -/
def maskedStatus (raw mask : Word) : Word := raw &&& mask

/-- The level of a line, `(raw & mask) != 0` (60_exceptions.md R315). -/
def lineLevel (raw mask : Word) : Bool := maskedStatus raw mask != 0#32

/-- `G.irq` (60_exceptions.md R316). DESIGN CHOICE (log 31): in a faulted state it is still `raw & mask`, where
40_gptm.md R100 defines no line value after a write that raises a fault. -/
def Gptm.irq (g : Gptm) : Bool := lineLevel g.rawStatus g.interruptMask

/-- `S.irq`, from the catch-all words RIS and IMC (60_exceptions.md R317). -/
def Ssys.irq (s : Ssys) : Bool := lineLevel s.words.ris s.words.imc

/-- `I.irq` (60_exceptions.md R318). -/
def I2c.irq (i : I2c) : Bool := lineLevel i.rawInterruptStatus i.interruptMask

/-- `A.irq[n]` (60_exceptions.md R319). -/
def Adc.irq (a : Adc) (n : Fin 4) : Bool := bit (maskedStatus a.rawInterruptStatus a.interruptMask) n

/-- CTL bit 0, TAEN (10_state.md R26). -/
def taen (control : Word) : Bool := bit control 0

/-- CTL bit 5, TAOTE (10_state.md R26). -/
def taote (control : Word) : Bool := bit control 5

/-- CTL bit 8, TBEN (10_state.md R26). -/
def tben (control : Word) : Bool := bit control 8

/-- A one-shot fire clears TAEN (40_gptm.md R152). -/
def clearTaen (control : Word) : Word := setBit control 0 false

/-- Mode bit 0, one-shot (10_state.md R25). -/
def oneShot (mode : Word) : Bool := bit mode 0

/-- RIS bit 0, the timeout status bit TATORIS, set (10_state.md R27). -/
def setTimeout (raw : Word) : Word := setBit raw 0 true

/-- RIS bit 3, the RTC-match status bit RTCRIS, set (10_state.md R27). -/
def setRtcMatch (raw : Word) : Word := setBit raw 3 true

/-- RCC bit 13, PWRDN (10_state.md R38). -/
def pwrdn (rcc : Word) : Bool := bit rcc 13

/-- RCC2 bit 31, USERCC2 (10_state.md R40). -/
def usercc2 (rcc2 : Word) : Bool := bit rcc2 31

/-- The PLL-locked mark set in the catch-all RIS word (41_ssys.md R202). -/
def markPll (ris : Word) : Word := ris ||| Config.pllMark

/-- MCS bit 1, ERROR, written (10_state.md R44). -/
def setError (mcs : Word) (b : Bool) : Word := setBit mcs 1 b

/-- MCS bit 4, ARBLST, written (10_state.md R44). -/
def setArblst (mcs : Word) (b : Bool) : Word := setBit mcs 4 b

/-- MCS bit 6, BUSBSY (10_state.md R44). -/
def busbsy (mcs : Word) : Bool := bit mcs 6

/-- MCS bit 6, BUSBSY, written (10_state.md R44). -/
def setBusbsy (mcs : Word) (b : Bool) : Word := setBit mcs 6 b

/-- MCR bit 4, MFE (10_state.md R49). -/
def mfe (mcr : Word) : Bool := bit mcr 4

/-- MCR bit 0, LPBK, in a written value (10_state.md R49). -/
def lpbk (v : Word) : Bool := bit v 0

/-- MCR bit 5, SFE, in a written value (10_state.md R49). -/
def sfe (v : Word) : Bool := bit v 5

/-- MCS command bit RUN (42_i2c.md R241). -/
def cmdRun (v : Word) : Bool := bit v 0

/-- MCS command bit START (42_i2c.md R241). -/
def cmdStart (v : Word) : Bool := bit v 1

/-- MCS command bit STOP (42_i2c.md R241). -/
def cmdStop (v : Word) : Bool := bit v 2

/-- MRIS bit 0, the byte-done status bit, set (10_state.md R48). -/
def setByteDone (mris : Word) : Word := setBit mris 0 true

/-- FIFO state bit 8, EMPTY (10_state.md R58). -/
def fifoEmpty (st : Word) : Bool := bit st 8

/-- FIFO state bit 12, FULL (10_state.md R58). -/
def fifoFull (st : Word) : Bool := bit st 12

/-- EMPTY written (43_adc.md R261, R262). -/
def setEmpty (st : Word) (b : Bool) : Word := setBit st 8 b

/-- FULL written (43_adc.md R261, R262). -/
def setFull (st : Word) (b : Bool) : Word := setBit st 12 b

end Sys2Proof.Machine
end

