-- ==== Sys2Proof/Machine/Ops.lean ====
section
/-! DEFINITION. The shared operations of the machine: taking a fault (the hardware's one exception entry), the access
forms that the register rules share, arming and reloading a GPTM channel and the fire body, the clock scale and the
board class, the I2C bus calls and the MCS command, the ADC FIFOs and trigger, and reset, save and restore of each
block. A meaning in Machine/<Family>.lean is one call of these. -/

namespace Sys2Proof.Machine

/-! ## Taking a fault -/

/-- `raise Fault(code)`: the fault is recorded and the step ends there; whatever the step wrote before stays, and no
later step is enabled, which `step` checks before it performs anything (60_exceptions.md R312, 20_memory.md R87,
10_state.md R23; log 3). There is no return from it (60_exceptions.md R324). -/
def takeFault (code : FaultCode) (s : State) : Result :=
  .next { s with faulted := some code }

/-! ## Access forms -/

/-- The value a BusRead returns to the host (20_memory.md R72; log 13). -/
def returnValue (v : Word) (s : State) : Result :=
  .next { s with readData := v }

/-- The state with GPTM instance `n` replaced. -/
def State.setGptm (s : State) (n : Nat) (g : Gptm) : State :=
  { s with gptm := s.gptm.set n g }

/-- An operation on GPTM instance `n`, which the board must have (00_scope.md R10 `NUM_GPTM`; log 23). -/
def withGptm (n : Nat) (s : State) (k : Gptm → Result) : Result :=
  match s.gptm[n]? with
  | some g => k g
  | none => .refused (.noSuchInstance n)

/-- A GPTM register read: no state changes (40_gptm.md R100). -/
def readGptm (n : Nat) (f : Gptm → Word) (s : State) : Result :=
  withGptm n s fun g => returnValue (f g) s

/-- A GPTM register write that only stores. The line is combinational, so nothing is recomputed
(40_gptm.md R100, 60_exceptions.md R315). -/
def writeGptm (n : Nat) (f : Gptm → Gptm) (s : State) : Result :=
  withGptm n s fun g => .next (s.setGptm n (f g))

/-- A GPTM access that always faults. -/
def faultGptm (n : Nat) (code : FaultCode) (s : State) : Result :=
  withGptm n s fun _ => takeFault code s

/-! ## GPTM: arm, disarm, reload, CTL and the fire body -/

/-- A GPTM instance after part of an operation, with the fault that ended it, if one did (60_exceptions.md R312). -/
structure GptmRun where
  gptm : Gptm
  fault : Option FaultCode
deriving DecidableEq, Repr

/-- The rest of an operation runs only if no fault has ended it (00_scope.md R12). -/
def GptmRun.andThen (r : GptmRun) (f : Gptm → GptmRun) : GptmRun :=
  match r.fault with
  | some _ => r
  | none => f r.gptm

/-- The operation goes on without a fault. -/
def Gptm.ok (g : Gptm) : GptmRun := { gptm := g, fault := none }

/-- The operation ends in a fault, and `g` holds what it wrote before. -/
def Gptm.raise (g : Gptm) (code : FaultCode) : GptmRun := { gptm := g, fault := some code }

/-- `arm(c, t)` (40_gptm.md R103). -/
def Gptm.arm (g : Gptm) (c : Channel) (t : Nat) : Gptm :=
  { g with nextDeadline := g.nextDeadline.set c t, armed := g.armed.set c true }

/-- `disarm(c)` (40_gptm.md R104). -/
def Gptm.disarm (g : Gptm) (c : Channel) : Gptm :=
  { g with armed := g.armed.set c false }

/-- `Reload(c, base)` at the given clock scale (40_gptm.md R102, R103). Under `Q_PWM_IMMEDIATE_FIRE` a PWM reload
arms the channel at `base` (93_implementation_defined.md section 3). -/
def Gptm.reload (p : Params) (scale : Nat) (g : Gptm) (c : Channel) (base : Nat) : GptmRun :=
  if g.config = 0#32 then
    (g.arm c (base + (comb g.load).toNat * scale)).ok
  else if g.config = 1#32 then
    (g.arm c (base + p.ticksPerSecond)).ok
  else if g.mode.get c = p.pwmSentinel then
    if p.quirks.pwmImmediateFire then (g.arm c base).ok else g.ok
  else
    g.raise .gptmMode

/-- An enable bit after a CTL write: a 0-to-1 change reloads the channel from `now`, a 1-to-0 change disarms it, and
no change does nothing (40_gptm.md R133, 90_conflicts.md C8). -/
def Gptm.enableChange (p : Params) (scale now : Nat) (c : Channel) (old new : Bool) (g : Gptm) : GptmRun :=
  if old = new then g.ok
  else if new then g.reload p scale c now
  else (g.disarm c).ok

/-- The CTL write: store, then channel A, then channel B, which acts only while `config >= 4` (40_gptm.md R133). -/
def Gptm.writeControl (p : Params) (scale now : Nat) (g : Gptm) (v : Word) : GptmRun :=
  (Gptm.enableChange p scale now .a (taen g.control) (taen v) { g with control := v }).andThen fun g1 =>
    if combined g1.config then g1.ok
    else Gptm.enableChange p scale now .b (tben g.control) (tben v) g1

/-- The state after an operation on GPTM instance `n`, with its fault recorded if it raised one. -/
def commitGptm (n : Nat) (r : GptmRun) (s : State) : Result :=
  match r.fault with
  | none => .next (s.setGptm n r.gptm)
  | some code => takeFault code (s.setGptm n r.gptm)

/-- FireBody branch `config == 1`, the RTC tick: the counter goes up modulo 2^32 and wraps past the combined match,
which sets the status bit; always reloaded (40_gptm.md R153, 90_conflicts.md C1). Under `Q_RTC_ZERO_STATUS` the bit is
also set when the counter is 0 after the increment (93_implementation_defined.md section 3). -/
def Gptm.rtcTick (p : Params) (scale : Nat) (g : Gptm) : GptmRun :=
  let count := g.rtcCounter + 1#32
  let passed := decide (count.toNat > (comb g.matchReg).toNat)
  let status := passed || (p.quirks.rtcZeroStatus && decide (count = 0#32))
  let g1 : Gptm :=
    { g with
      rtcCounter := if passed then 0#32 else count
      rawStatus := if status then setRtcMatch g.rawStatus else g.rawStatus }
  g1.reload p scale .a g1.nextDeadline.a

/-- FireBody branch `config == 0`, the countdown, but for the ADC pulse: the timeout bit is set; a one-shot timer is
disabled, a periodic one is reloaded from its old deadline (40_gptm.md R152). -/
def Gptm.countdownFire (p : Params) (scale : Nat) (g : Gptm) : GptmRun :=
  let g1 : Gptm := { g with rawStatus := setTimeout g.rawStatus }
  if oneShot g1.mode.a then ({ g1 with control := clearTaen g1.control } : Gptm).ok
  else g1.reload p scale .a g1.nextDeadline.a

/-- FireBody branches for a `config` that is neither 0 nor 1: PWM does nothing, any other mode faults
(40_gptm.md R154, R155). -/
def Gptm.modeFire (p : Params) (g : Gptm) (c : Channel) : GptmRun :=
  if g.mode.get c = p.pwmSentinel then g.ok else g.raise .gptmMode

/-- FireBody(0) on the GPTM's own state, the branches in the order of R152 to R155 (40_gptm.md R150). -/
def Gptm.fireBodyA (p : Params) (scale : Nat) (g : Gptm) : GptmRun :=
  if g.config = 0#32 then g.countdownFire p scale
  else if g.config = 1#32 then g.rtcTick p scale
  else g.modeFire p .a

/-- The body of a channel-B fire (40_gptm.md R151). -/
def Gptm.fireBodyB (p : Params) (g : Gptm) : GptmRun :=
  if combined g.config then g.raise .gptmReconfig else g.modeFire p .b

/-- Does a fire of channel A pulse the trigger output: only in countdown mode with TAOTE set
(40_gptm.md R152, 60_exceptions.md R330)? -/
def Gptm.firePulses (g : Gptm) : Bool := decide (g.config = 0#32) && taote g.control

/-- A fire of channel `c` is enabled: armed, and its deadline not after `now` (20_memory.md R83). -/
def Gptm.fireEnabled (g : Gptm) (c : Channel) (now : Nat) : Bool :=
  g.armed.get c && decide (g.nextDeadline.get c ≤ now)

/-! ## SSYS: clock scale and board class -/

/-- `divisorField` of 41_ssys.md R180: SYSDIV2 of RCC2 while USERCC2 is set, else SYSDIV of RCC (R181). -/
def divisorField (rccControl rcc2 : Word) : Nat :=
  if usercc2 rcc2 then (sysdiv2 rcc2).toNat else (sysdiv rccControl).toNat

/-- The derived clock scale (41_ssys.md R180). -/
def clockScale (p : Params) (rccControl rcc2 : Word) : Nat :=
  p.scaleMult * (divisorField rccControl rcc2 + 1)

/-- `Recompute()` (41_ssys.md R180, R183). -/
def Ssys.recompute (p : Params) (s : Ssys) : Ssys :=
  { s with systemClockScale := clockScale p s.rccControl s.rcc2 }

/-- The board classes of 41_ssys.md R182. -/
inductive BoardClass where
  | sandstorm
  | fury
deriving DecidableEq, Repr

/-- `BoardClass()`; none where the rule raises `Fault(SSYS_BOARD_CLASS)` (41_ssys.md R182). -/
def boardClass (did0 : Word) : Option BoardClass :=
  if didVersion did0 = 0#3 then some .sandstorm
  else if didVersion did0 = 1#3 then
    if didClass did0 = 0#8 then some .sandstorm
    else if didClass did0 = 1#8 then some .fury
    else none
  else none

/-- The reset value of RCC2 for a board class (41_ssys.md R182, 70_reset_and_hazards.md R352). -/
def BoardClass.rcc2Reset (c : BoardClass) : Word :=
  match c with
  | .sandstorm => Config.rcc2ResetSandstorm
  | .fury => Config.rcc2ResetFury

/-- An SSYS register read. -/
def readSsys (f : Ssys → Word) (s : State) : Result := returnValue (f s.ssys) s

/-- An SSYS register write: store, then recompute the scale (41_ssys.md R183). -/
def writeSsys (f : Ssys → Ssys) (s : State) : Result :=
  .next { s with ssys := (f s.ssys).recompute s.params }

/-- A read of a catch-all word (41_ssys.md R195). -/
def readCatchall (r : CatchallReg) (s : State) : Result := readSsys (fun y => y.words.get r) s

/-- A write of a catch-all word (41_ssys.md R205). -/
def writeCatchall (r : CatchallReg) (v : Word) (s : State) : Result :=
  writeSsys (fun y => { y with words := y.words.set r v }) s

/-- The RCC write before the recomputation: a 1-to-0 change of PWRDN marks the PLL as locked (41_ssys.md R202). -/
def Ssys.writeRcc (y : Ssys) (v : Word) : Ssys :=
  { y with
    words := if pwrdn y.rccControl && !pwrdn v then { y.words with ris := markPll y.words.ris } else y.words
    rccControl := v }

/-- The SSYS reset, none where the board class is unrecognised (70_reset_and_hazards.md R352). -/
def Ssys.resetRegs (p : Params) (y : Ssys) : Option Ssys :=
  match boardClass y.board.did0 with
  | none => none
  | some cls =>
    some
      (Ssys.recompute p
        { y with
          rccControl := Config.rccReset
          rccConfig := 0#32
          rcc2 := cls.rcc2Reset
          words := CatchallWords.reset })

/-! ## I2C: the bus collaborator and the MCS command -/

/-- `bus.isBusy()` (42_i2c.md R220). -/
def I2cBus.isBusy (b : I2cBus) : Bool := decide (b.holder ≠ .none)

/-- The draw of `acquire`: the fixed answer where a stimulus gave one, else a fresh free value (42_i2c.md R220;
log 4, log 5). -/
def I2cBus.drawAcquire (b : I2cBus) : Bool :=
  match b.nextAcquire with
  | some ok => ok
  | none => Config.acquireDraw b.draws

/-- The draw of `recvByte` (42_i2c.md R220; log 4, log 5). -/
def I2cBus.drawRecv (b : I2cBus) : Byte :=
  match b.nextRecv with
  | some x => x
  | none => Config.recvDraw b.draws

/-- The bus collaborator and the answer of a call. -/
structure AcquireRun where
  ok : Bool
  bus : I2cBus
deriving DecidableEq, Repr

/-- `bus.acquire(a, r)`: false without a draw while another master holds the bus, else a draw (42_i2c.md R220). -/
def I2cBus.acquire (b : I2cBus) (a : BitVec 7) (r : Bool) : AcquireRun :=
  match b.holder with
  | .other => { ok := false, bus := { b with calls := b.calls ++ [.acquire a r false] } }
  | h =>
    let ok := b.drawAcquire
    { ok := ok
      bus :=
        { b with
          holder := if ok then .self else h
          nextAcquire := none
          draws := b.draws + 1
          calls := b.calls ++ [.acquire a r ok] } }

/-- `bus.sendByte(x)`: the byte goes to the addressed device (42_i2c.md R220). -/
def I2cBus.sendByte (b : I2cBus) (x : Byte) : I2cBus :=
  { b with calls := b.calls ++ [.sendByte x] }

/-- The bus collaborator after `bus.recvByte()`, whose answer is `drawRecv` (42_i2c.md R220). -/
def I2cBus.recvByte (b : I2cBus) : I2cBus :=
  { b with nextRecv := none, draws := b.draws + 1, calls := b.calls ++ [.recvByte b.drawRecv] }

/-- `bus.release()` (42_i2c.md R220). -/
def I2cBus.release (b : I2cBus) : I2cBus :=
  { b with
    holder := if b.holder = .self then .none else b.holder
    calls := b.calls ++ [.release] }

/-- The I2C master and the bus together. -/
structure I2cSide where
  regs : I2c
  bus : I2cBus
deriving DecidableEq, Repr

/-- `held`: the bus is busy and BUSBSY says this controller owns it (42_i2c.md R221). -/
def I2cSide.held (x : I2cSide) : Bool := x.bus.isBusy && busbsy x.regs.controlStatus

/-- The START part of an MCS command, which acts only while BUSBSY is 0 (42_i2c.md R241). -/
def I2cSide.start (x : I2cSide) (v : Word) : I2cSide :=
  if cmdStart v && !busbsy x.regs.controlStatus then
    let r := x.bus.acquire (slaveAddressField x.regs.slaveAddress) (slaveIsRead x.regs.slaveAddress)
    if r.ok then
      { regs := { x.regs with controlStatus := setBusbsy (setArblst x.regs.controlStatus false) true }, bus := r.bus }
    else
      { regs := { x.regs with controlStatus := setArblst x.regs.controlStatus true }, bus := r.bus }
  else x

/-- The RUN part: one byte moves, in the direction of MSA bit 0, and byte-done is set (42_i2c.md R241,
90_conflicts.md C5). -/
def I2cSide.run (x : I2cSide) (v : Word) : I2cSide :=
  if cmdRun v then
    if slaveIsRead x.regs.slaveAddress then
      { regs :=
          { x.regs with
            dataRegister := x.bus.drawRecv
            rawInterruptStatus := setByteDone x.regs.rawInterruptStatus }
        bus := x.bus.recvByte }
    else
      { regs := { x.regs with rawInterruptStatus := setByteDone x.regs.rawInterruptStatus }
        bus := x.bus.sendByte x.regs.dataRegister }
  else x

/-- The STOP part (42_i2c.md R241). -/
def I2cSide.stop (x : I2cSide) (v : Word) : I2cSide :=
  if cmdStop v then
    { regs := { x.regs with controlStatus := setBusbsy x.regs.controlStatus false }, bus := x.bus.release }
  else x

/-- The MCS command, in the order of 42_i2c.md R241. -/
def I2cSide.command (x : I2cSide) (v : Word) : I2cSide :=
  if mfe x.regs.masterConfig then
    let x1 := x.start v
    if x1.held then
      let x2 : I2cSide := { x1 with regs := { x1.regs with controlStatus := setError x1.regs.controlStatus false } }
      (x2.run v).stop v
    else
      { x1 with regs := { x1.regs with controlStatus := setError x1.regs.controlStatus true } }
  else x

/-- An I2C register read. -/
def readI2c (f : I2c → Word) (s : State) : Result := returnValue (f s.i2c) s

/-- An I2C register write that only stores. -/
def writeI2c (f : I2c → I2c) (s : State) : Result := .next { s with i2c := f s.i2c }

/-- The I2C reset on registers and bus: a bus that BUSBSY says is owned is released (70_reset_and_hazards.md R353). -/
def I2cSide.resetSide (x : I2cSide) : I2cSide :=
  { regs := I2c.reset
    bus := if busbsy x.regs.controlStatus then x.bus.release else x.bus }

/-! ## ADC: FIFOs, samples and the trigger -/

/-- An ADC register read. -/
def readAdc (f : Adc → Word) (s : State) : Result := returnValue (f s.adc) s

/-- An ADC register write that only stores. -/
def writeAdc (f : Adc → Adc) (s : State) : Result := .next { s with adc := f s.adc }

/-- The slot of a FIFO at an index. -/
def Fifo.slot (f : Fifo) (k : BitVec 4) : Word := f.data[k.toNat]'k.isLt

/-- The index after `k`, modulo `FIFO_CAP` (43_adc.md R260; values other than 16: log 30). -/
def nextIndex (p : Params) (k : BitVec 4) : BitVec 4 := BitVec.ofNat 4 ((k.toNat + 1) % p.fifoCap)

/-- The state word after a read of a FIFO that is not empty: the tail advances, FULL is cleared, EMPTY is set when the
tail catches the head (43_adc.md R261, decision D60). Under `Q_ADC_FIFO_TAIL_UNMASKED` the comparison uses `t + 1`
without the modulus. -/
def popWord (p : Params) (st : Word) : Word :=
  let t1 := nextIndex p (fifoTail st)
  let st1 := setFull (setTail st t1) false
  let caught := if p.quirks.adcFifoTailUnmasked then decide ((fifoTail st).toNat + 1 = (fifoHead st).toNat) else decide (t1 = fifoHead st)
  if caught then setEmpty st1 true else st1

/-- The state word after a write to a FIFO that is not full: EMPTY is cleared, the head advances, FULL is set when the
head catches the tail (43_adc.md R262). -/
def pushWord (p : Params) (st : Word) : Word :=
  let h1 := nextIndex p (fifoHead st)
  let st1 := setHead (setEmpty st false) h1
  if h1 = fifoTail st then setFull st1 true else st1

/-- The value that `fifo_read(n)` returns: the slot at the old tail (43_adc.md R261). -/
def Adc.fifoValue (a : Adc) (n : Fin 4) : Word := a.fifo[n].slot (fifoTail a.fifo[n].state)

/-- The ADC after `fifo_read(n)` (43_adc.md R261). -/
def Adc.fifoRead (p : Params) (a : Adc) (n : Fin 4) : Adc :=
  if fifoEmpty a.fifo[n].state then { a with underflow := setBit a.underflow n true }
  else
    { a with
      fifo := a.fifo.set n { a.fifo[n] with state := popWord p a.fifo[n].state } }

/-- The ADC after `fifo_write(n, x)` (43_adc.md R262). -/
def Adc.fifoWrite (p : Params) (a : Adc) (n : Fin 4) (x : Word) : Adc :=
  if fifoFull a.fifo[n].state then { a with overflow := setBit a.overflow n true }
  else
    { a with
      fifo :=
        a.fifo.set n
          { state := pushWord p a.fifo[n].state
            data := a.fifo[n].data.set (fifoHead a.fifo[n].state).toNat x (fifoHead a.fifo[n].state).isLt } }

/-- The noise step (43_adc.md R263). -/
def nextNoise (p : Params) (noise : Word) : Word := noise * p.lcgMul + p.lcgInc

/-- `Sample()`, from the noise already advanced (43_adc.md R264). -/
def sampleOf (noise : Word) : Word := Config.sampleBase + (noise.extractLsb' 16 3).setWidth 32

/-- Does sequencer `n` take part in a trigger: one of the `NUM_SEQ` (log 30), active, and its selector says "timer"
(43_adc.md R263)? -/
def Adc.triggered (p : Params) (a : Adc) (n : Fin 4) : Bool :=
  decide (n.val < p.numSeq) && a.activeSequencers.getLsbD n &&
    decide (emuxField a.sampleSource p.adcEmuxCmpWidth n = p.adcEmuxTimer)

/-- One sequencer's turn in a trigger (43_adc.md R263). -/
def Adc.sampleInto (p : Params) (a : Adc) (n : Fin 4) : Adc :=
  if a.triggered p n then
    let a1 : Adc := { a with noise := nextNoise p a.noise }
    let a2 := a1.fifoWrite p n (sampleOf a1.noise)
    { a2 with rawInterruptStatus := setBit a2.rawInterruptStatus n true }
  else a

/-- `Trigger()`: the sequencers in ascending order (43_adc.md R263). -/
def Adc.trigger (p : Params) (a : Adc) : Adc :=
  (((a.sampleInto p 0).sampleInto p 1).sampleInto p 2).sampleInto p 3

/-- `k` triggers in a row (20_memory.md R88). -/
def Adc.triggers (p : Params) (k : Nat) (a : Adc) : Adc :=
  match k with
  | 0 => a
  | k + 1 => Adc.triggers p k (a.trigger p)

/-- `pulse(trigger)` of GPTM instance `n`: `ADC_TRIGGERS_PER_PULSE` triggers inside the same step, if the instance is
wired to the ADC (20_memory.md R88, 60_exceptions.md R330). -/
def pulseAdc (p : Params) (n : Nat) (a : Adc) : Adc :=
  if p.adcTriggerSources.has n then a.triggers p p.adcTriggersPerPulse else a

/-- Delivery of channel `c`'s deadline on instance `n`: refused where it is not enabled; its first action consumes the
handle; `body` is the fire body, and a countdown fire with TAOTE runs the ADC inside the same step
(20_memory.md R83, R88, 40_gptm.md R150 to R155). -/
def fireChannel (n : Nat) (c : Channel) (pulses : Gptm → Bool) (body : Gptm → GptmRun) (s : State) : Result :=
  withGptm n s fun g =>
    if g.fireEnabled c s.now then
      commitGptm n (body (g.disarm c)) (if pulses g then { s with adc := pulseAdc s.params n s.adc } else s)
    else .refused .fireNotEnabled

/-! ## Reset, save and restore -/

/-- The GPTM reset of instance `n` (70_reset_and_hazards.md R351). -/
def resetGptm (n : Nat) (s : State) : Result := writeGptm n (fun _ => Gptm.reset) s

/-- The SSYS reset (70_reset_and_hazards.md R352). -/
def resetSsys (s : State) : Result :=
  match s.ssys.resetRegs s.params with
  | some y => .next { s with ssys := y }
  | none => takeFault .ssysBoardClass s

/-- The I2C reset (70_reset_and_hazards.md R353). -/
def resetI2c (s : State) : Result :=
  let x := (I2cSide.mk s.i2c s.bus).resetSide
  .next { s with i2c := x.regs, bus := x.bus }

/-- The ADC reset (70_reset_and_hazards.md R354). -/
def resetAdc (s : State) : Result := .next { s with adc := Adc.reset }

/-- `Reset(all)`, one step: SSYS, each GPTM by ascending index, I2C, ADC; only the SSYS part can fault, and it comes
first (70_reset_and_hazards.md R355). -/
def resetAll (s : State) : Result :=
  match s.ssys.resetRegs s.params with
  | none => takeFault .ssysBoardClass s
  | some y =>
    let x := (I2cSide.mk s.i2c s.bus).resetSide
    .next
      { s with
        ssys := y
        gptm := s.gptm.map fun _ => Gptm.reset
        i2c := x.regs
        bus := x.bus
        adc := Adc.reset }

/-- What `Save` keeps of SSYS (70_reset_and_hazards.md R365). -/
def Ssys.snapshot (y : Ssys) : SsysSnapshot :=
  { rccControl := y.rccControl, rccConfig := y.rccConfig, rcc2 := y.rcc2, words := y.words }

/-- `Save(blk)`: the block's snapshot goes to the host persistence, and no block changes
(70_reset_and_hazards.md R365; log 12). -/
def saveBlock (b : Block) (n : Nat) (s : State) : Result :=
  match b with
  | .gptm => withGptm n s fun g => .next { s with saved := { s.saved with gptm := s.saved.gptm ++ [g] } }
  | .ssys => .next { s with saved := { s.saved with ssys := s.saved.ssys ++ [s.ssys.snapshot] } }
  | .i2c => .next { s with saved := { s.saved with i2c := s.saved.i2c ++ [s.i2c] } }
  | .adc => .next { s with saved := { s.saved with adc := s.saved.adc ++ [s.adc] } }

/-- A restore takes the snapshot that `Save` produced under number `k`; any other is outside the model, which refuses it
(70_reset_and_hazards.md R366, U18; log 12). -/
def withSnapshot {α : Type} (snaps : List α) (k : Word) (f : α → Result) : Result :=
  match snaps[k.toNat]? with
  | some x => f x
  | none => .refused (.noSuchSnapshot k.toNat)

/-- A restored channel keeps its stored deadline: armed at it, or disarmed (70_reset_and_hazards.md R366). -/
def Gptm.restoreChannel (snap : Gptm) (c : Channel) (g : Gptm) : Gptm :=
  if snap.armed.get c then g.arm c (snap.nextDeadline.get c) else g.disarm c

/-- `Restore` of GPTM instance `n`: every saved field, then each channel (70_reset_and_hazards.md R366). -/
def restoreGptm (n : Nat) (k : Word) (s : State) : Result :=
  withGptm n s fun _ =>
    withSnapshot s.saved.gptm k fun snap =>
      .next (s.setGptm n (Gptm.restoreChannel snap .b (Gptm.restoreChannel snap .a snap)))

/-- `Restore` of SSYS: every saved field, then the scale recomputed (70_reset_and_hazards.md R366). -/
def restoreSsys (k : Word) (s : State) : Result :=
  withSnapshot s.saved.ssys k fun snap =>
    writeSsys
      (fun y =>
        { y with rccControl := snap.rccControl, rccConfig := snap.rccConfig, rcc2 := snap.rcc2, words := snap.words }) s

/-- `Restore` of the I2C master; the bus ownership is not part of it (70_reset_and_hazards.md R365, R366). -/
def restoreI2c (k : Word) (s : State) : Result :=
  withSnapshot s.saved.i2c k fun snap => .next { s with i2c := snap }

/-- `Restore` of the ADC (70_reset_and_hazards.md R366). -/
def restoreAdc (k : Word) (s : State) : Result :=
  withSnapshot s.saved.adc k fun snap => .next { s with adc := snap }

end Sys2Proof.Machine
end

