-- ==== Sys2Proof/Machine/Adc.lean ====
section
/-! DEFINITION. The meanings of the ADC operations (43_adc.md R270 to R305, 70_reset_and_hazards.md R354, R366). The lines
are combinational, so nothing is recomputed (60_exceptions.md R315). -/

namespace Sys2Proof.Machine

/-- A read of SSMUXn (43_adc.md R280). -/
def readMux (n : Fin 4) (s : State) : Result := readAdc (fun a => a.mux[n]) s

/-- A read of SSCTLn (43_adc.md R281). -/
def readCtl (n : Fin 4) (s : State) : Result := readAdc (fun a => a.ctl[n]) s

/-- A read of SSFIFOn, the only read that changes state: it pops the FIFO or sets the underflow bit
(43_adc.md R282, 20_memory.md R75). -/
def readFifo (n : Fin 4) (s : State) : Result :=
  .next { s with adc := s.adc.fifoRead s.params n, readData := s.adc.fifoValue n }

/-- A read of SSFSTATn (43_adc.md R283). -/
def readFstat (n : Fin 4) (s : State) : Result := readAdc (fun a => a.fifo[n].state) s

/-- A write of SSMUXn (43_adc.md R300). -/
def writeMux (n : Fin 4) (v : Word) (s : State) : Result :=
  writeAdc (fun a => { a with mux := a.mux.set n (v &&& Config.ssmuxMask) }) s

/-- A write of SSCTLn: only the one supported value is accepted (43_adc.md R301). -/
def writeCtl (n : Fin 4) (v : Word) (s : State) : Result :=
  if v = s.params.adcSsctlSupported then writeAdc (fun a => { a with ctl := a.ctl.set n v }) s
  else takeFault .adcSequence s

/-- ADC.R.ACTSS: the active-sequencer bits (43_adc.md R270). -/
def execAdcRActss (s : State) : Result :=
  readAdc (fun a => zextNibble a.activeSequencers) s

/-- ADC.R.RIS: the raw interrupt status (43_adc.md R271). -/
def execAdcRRis (s : State) : Result :=
  readAdc (fun a => a.rawInterruptStatus) s

/-- ADC.R.IM: the interrupt mask (43_adc.md R272). -/
def execAdcRIm (s : State) : Result :=
  readAdc (fun a => a.interruptMask) s

/-- ADC.R.ISC: the masked interrupt status (43_adc.md R273). -/
def execAdcRIsc (s : State) : Result :=
  readAdc (fun a => maskedStatus a.rawInterruptStatus a.interruptMask) s

/-- ADC.R.OSTAT: the overflow bitmap (43_adc.md R274). -/
def execAdcROstat (s : State) : Result :=
  readAdc (fun a => a.overflow) s

/-- ADC.R.EMUX: the trigger-source selectors (43_adc.md R275). -/
def execAdcREmux (s : State) : Result :=
  readAdc (fun a => a.sampleSource) s

/-- ADC.R.USTAT: the underflow bitmap (43_adc.md R276). -/
def execAdcRUstat (s : State) : Result :=
  readAdc (fun a => a.underflow) s

/-- ADC.R.SSPRI: the sequencer priority (43_adc.md R277). -/
def execAdcRSspri (s : State) : Result :=
  readAdc (fun a => a.seqPriority) s

/-- ADC.R.PSSI: write-only, always faults (43_adc.md R278). -/
def execAdcRPssi (s : State) : Result :=
  takeFault .adcBadOffset s

/-- ADC.R.SAC: the averaging control (43_adc.md R279). -/
def execAdcRSac (s : State) : Result :=
  readAdc (fun a => a.averaging) s

/-- ADC.R.SSMUX0: the input mux of sequencer 0 (43_adc.md R280). -/
def execAdcRSsmux0 (s : State) : Result :=
  readMux 0 s

/-- ADC.R.SSCTL0: the control of sequencer 0 (43_adc.md R281). -/
def execAdcRSsctl0 (s : State) : Result :=
  readCtl 0 s

/-- ADC.R.SSFIFO0: pop the FIFO of sequencer 0 (43_adc.md R282). -/
def execAdcRSsfifo0 (s : State) : Result :=
  readFifo 0 s

/-- ADC.R.SSFSTAT0: the FIFO state word of sequencer 0 (43_adc.md R283). -/
def execAdcRSsfstat0 (s : State) : Result :=
  readFstat 0 s

/-- ADC.R.SSMUX1: the input mux of sequencer 1 (43_adc.md R280). -/
def execAdcRSsmux1 (s : State) : Result :=
  readMux 1 s

/-- ADC.R.SSCTL1: the control of sequencer 1 (43_adc.md R281). -/
def execAdcRSsctl1 (s : State) : Result :=
  readCtl 1 s

/-- ADC.R.SSFIFO1: pop the FIFO of sequencer 1 (43_adc.md R282). -/
def execAdcRSsfifo1 (s : State) : Result :=
  readFifo 1 s

/-- ADC.R.SSFSTAT1: the FIFO state word of sequencer 1 (43_adc.md R283). -/
def execAdcRSsfstat1 (s : State) : Result :=
  readFstat 1 s

/-- ADC.R.SSMUX2: the input mux of sequencer 2 (43_adc.md R280). -/
def execAdcRSsmux2 (s : State) : Result :=
  readMux 2 s

/-- ADC.R.SSCTL2: the control of sequencer 2 (43_adc.md R281). -/
def execAdcRSsctl2 (s : State) : Result :=
  readCtl 2 s

/-- ADC.R.SSFIFO2: pop the FIFO of sequencer 2 (43_adc.md R282). -/
def execAdcRSsfifo2 (s : State) : Result :=
  readFifo 2 s

/-- ADC.R.SSFSTAT2: the FIFO state word of sequencer 2 (43_adc.md R283). -/
def execAdcRSsfstat2 (s : State) : Result :=
  readFstat 2 s

/-- ADC.R.SSMUX3: the input mux of sequencer 3 (43_adc.md R280). -/
def execAdcRSsmux3 (s : State) : Result :=
  readMux 3 s

/-- ADC.R.SSCTL3: the control of sequencer 3 (43_adc.md R281). -/
def execAdcRSsctl3 (s : State) : Result :=
  readCtl 3 s

/-- ADC.R.SSFIFO3: pop the FIFO of sequencer 3 (43_adc.md R282). -/
def execAdcRSsfifo3 (s : State) : Result :=
  readFifo 3 s

/-- ADC.R.SSFSTAT3: the FIFO state word of sequencer 3 (43_adc.md R283). -/
def execAdcRSsfstat3 (s : State) : Result :=
  readFstat 3 s

/-- ADC.W.ACTSS: stored, 4 bits (43_adc.md R290). -/
def execAdcWActss (v : Word) (s : State) : Result :=
  writeAdc (fun a => { a with activeSequencers := low4 v }) s

/-- ADC.W.RIS: read-only, always faults (43_adc.md R291). -/
def execAdcWRis (_v : Word) (s : State) : Result :=
  takeFault .adcBadOffset s

/-- ADC.W.IM: stored verbatim (43_adc.md R292). -/
def execAdcWIm (v : Word) (s : State) : Result :=
  writeAdc (fun a => { a with interruptMask := v }) s

/-- ADC.W.ISC: write one to clear of the raw status (43_adc.md R293). -/
def execAdcWIsc (v : Word) (s : State) : Result :=
  writeAdc (fun a => { a with rawInterruptStatus := w1c a.rawInterruptStatus v }) s

/-- ADC.W.OSTAT: write one to clear of the overflow bits (43_adc.md R294). -/
def execAdcWOstat (v : Word) (s : State) : Result :=
  writeAdc (fun a => { a with overflow := w1c a.overflow v }) s

/-- ADC.W.EMUX: stored verbatim (43_adc.md R295). -/
def execAdcWEmux (v : Word) (s : State) : Result :=
  writeAdc (fun a => { a with sampleSource := v }) s

/-- ADC.W.USTAT: write one to clear of the underflow bits (43_adc.md R296). -/
def execAdcWUstat (v : Word) (s : State) : Result :=
  writeAdc (fun a => { a with underflow := w1c a.underflow v }) s

/-- ADC.W.SSPRI: stored, with no effect (43_adc.md R297). -/
def execAdcWSspri (v : Word) (s : State) : Result :=
  writeAdc (fun a => { a with seqPriority := v }) s

/-- ADC.W.PSSI: the unimplemented processor trigger always faults (43_adc.md R298). -/
def execAdcWPssi (_v : Word) (s : State) : Result :=
  takeFault .adcPssi s

/-- ADC.W.SAC: stored, with no effect (43_adc.md R299). -/
def execAdcWSac (v : Word) (s : State) : Result :=
  writeAdc (fun a => { a with averaging := v }) s

/-- ADC.W.SSMUX0: the input mux of sequencer 0, masked (43_adc.md R300). -/
def execAdcWSsmux0 (v : Word) (s : State) : Result :=
  writeMux 0 v s

/-- ADC.W.SSCTL0: the control of sequencer 0: the supported value or a fault (43_adc.md R301). -/
def execAdcWSsctl0 (v : Word) (s : State) : Result :=
  writeCtl 0 v s

/-- ADC.W.SSFIFO0: the FIFO of sequencer 0 is read-only, always faults (43_adc.md R302). -/
def execAdcWSsfifo0 (_v : Word) (s : State) : Result :=
  takeFault .adcBadOffset s

/-- ADC.W.SSFSTAT0: the FIFO state of sequencer 0 is read-only, always faults (43_adc.md R303). -/
def execAdcWSsfstat0 (_v : Word) (s : State) : Result :=
  takeFault .adcBadOffset s

/-- ADC.W.SSMUX1: the input mux of sequencer 1, masked (43_adc.md R300). -/
def execAdcWSsmux1 (v : Word) (s : State) : Result :=
  writeMux 1 v s

/-- ADC.W.SSCTL1: the control of sequencer 1: the supported value or a fault (43_adc.md R301). -/
def execAdcWSsctl1 (v : Word) (s : State) : Result :=
  writeCtl 1 v s

/-- ADC.W.SSFIFO1: the FIFO of sequencer 1 is read-only, always faults (43_adc.md R302). -/
def execAdcWSsfifo1 (_v : Word) (s : State) : Result :=
  takeFault .adcBadOffset s

/-- ADC.W.SSFSTAT1: the FIFO state of sequencer 1 is read-only, always faults (43_adc.md R303). -/
def execAdcWSsfstat1 (_v : Word) (s : State) : Result :=
  takeFault .adcBadOffset s

/-- ADC.W.SSMUX2: the input mux of sequencer 2, masked (43_adc.md R300). -/
def execAdcWSsmux2 (v : Word) (s : State) : Result :=
  writeMux 2 v s

/-- ADC.W.SSCTL2: the control of sequencer 2: the supported value or a fault (43_adc.md R301). -/
def execAdcWSsctl2 (v : Word) (s : State) : Result :=
  writeCtl 2 v s

/-- ADC.W.SSFIFO2: the FIFO of sequencer 2 is read-only, always faults (43_adc.md R302). -/
def execAdcWSsfifo2 (_v : Word) (s : State) : Result :=
  takeFault .adcBadOffset s

/-- ADC.W.SSFSTAT2: the FIFO state of sequencer 2 is read-only, always faults (43_adc.md R303). -/
def execAdcWSsfstat2 (_v : Word) (s : State) : Result :=
  takeFault .adcBadOffset s

/-- ADC.W.SSMUX3: the input mux of sequencer 3, masked (43_adc.md R300). -/
def execAdcWSsmux3 (v : Word) (s : State) : Result :=
  writeMux 3 v s

/-- ADC.W.SSCTL3: the control of sequencer 3: the supported value or a fault (43_adc.md R301). -/
def execAdcWSsctl3 (v : Word) (s : State) : Result :=
  writeCtl 3 v s

/-- ADC.W.SSFIFO3: the FIFO of sequencer 3 is read-only, always faults (43_adc.md R302). -/
def execAdcWSsfifo3 (_v : Word) (s : State) : Result :=
  takeFault .adcBadOffset s

/-- ADC.W.SSFSTAT3: the FIFO state of sequencer 3 is read-only, always faults (43_adc.md R303). -/
def execAdcWSsfstat3 (_v : Word) (s : State) : Result :=
  takeFault .adcBadOffset s

/-- ADC.R.UNDEF: an undefined offset always faults (43_adc.md R284). -/
def execAdcRUndef (_off : BitVec 12) (s : State) : Result :=
  takeFault .adcBadOffset s

/-- ADC.W.UNDEF: an undefined offset always faults (43_adc.md R304). -/
def execAdcWUndef (_off : BitVec 12) (_v : Word) (s : State) : Result :=
  takeFault .adcBadOffset s

/-- ADC.EV.TRIGGER: the trigger body (43_adc.md R305). -/
def execAdcEvTrigger (s : State) : Result :=
  .next { s with adc := s.adc.trigger s.params }

/-- ADC.EV.RESTORE: restore from a saved snapshot (70_reset_and_hazards.md R366). -/
def execAdcEvRestore (k : Word) (s : State) : Result :=
  restoreAdc k s

/-- ADC.EV.RESET: reset (70_reset_and_hazards.md R354). -/
def execAdcEvReset (s : State) : Result :=
  resetAdc s

end Sys2Proof.Machine
end

