-- ==== Sys2Proof/Machine/GptmEvent.lean ====
section
/-! DEFINITION. The meanings of the GPTM events: the two fires, restore and reset (40_gptm.md R150 to R155,
70_reset_and_hazards.md R351, R366). -/

namespace Sys2Proof.Machine

/-- GPTM.EV.FIRE_A: channel A's deadline is delivered (40_gptm.md R150). -/
def execGptmEvFireA (n : Nat) (s : State) : Result :=
  fireChannel n .a Gptm.firePulses (fun g => g.fireBodyA s.params s.ssys.systemClockScale) s

/-- GPTM.EV.FIRE_B: channel B's deadline is delivered (40_gptm.md R151). -/
def execGptmEvFireB (n : Nat) (s : State) : Result :=
  fireChannel n .b (fun _ => false) (fun g => g.fireBodyB s.params) s

/-- GPTM.EV.RESTORE: restore an instance from a saved snapshot (70_reset_and_hazards.md R366). -/
def execGptmEvRestore (n : Nat) (k : Word) (s : State) : Result :=
  restoreGptm n k s

/-- GPTM.EV.RESET: reset an instance (70_reset_and_hazards.md R351). -/
def execGptmEvReset (n : Nat) (s : State) : Result :=
  resetGptm n s

end Sys2Proof.Machine
end

