-- ==== Sys2Proof/Machine/GptmRead.lean ====
section
/-! DEFINITION. The meanings of the GPTM register reads (40_gptm.md R110 to R128). A read that returns changes no
state but the value handed back to the host (20_memory.md R75). -/

namespace Sys2Proof.Machine

/-- GPTM.R.CFG: the configuration (40_gptm.md R110). -/
def execGptmRCfg (n : Nat) (s : State) : Result :=
  readGptm n (fun g => g.config) s

/-- GPTM.R.TAMR: channel A's mode (40_gptm.md R111). -/
def execGptmRTamr (n : Nat) (s : State) : Result :=
  readGptm n (fun g => g.mode.a) s

/-- GPTM.R.TBMR: channel B's mode (40_gptm.md R112). -/
def execGptmRTbmr (n : Nat) (s : State) : Result :=
  readGptm n (fun g => g.mode.b) s

/-- GPTM.R.CTL: the control register (40_gptm.md R113). -/
def execGptmRCtl (n : Nat) (s : State) : Result :=
  readGptm n (fun g => g.control) s

/-- GPTM.R.IMR: the interrupt mask (40_gptm.md R114). -/
def execGptmRImr (n : Nat) (s : State) : Result :=
  readGptm n (fun g => g.interruptMask) s

/-- GPTM.R.RIS: the raw status; the read clears nothing (40_gptm.md R115). -/
def execGptmRRis (n : Nat) (s : State) : Result :=
  readGptm n (fun g => g.rawStatus) s

/-- GPTM.R.MIS: the masked status (40_gptm.md R116). -/
def execGptmRMis (n : Nat) (s : State) : Result :=
  readGptm n (fun g => maskedStatus g.rawStatus g.interruptMask) s

/-- GPTM.R.ICR: reads 0, for it has no storage (40_gptm.md R117). -/
def execGptmRIcr (n : Nat) (s : State) : Result :=
  readGptm n (fun _ => 0#32) s

/-- GPTM.R.TAILR: load A, combined while `config < 4` (40_gptm.md R118). -/
def execGptmRTailr (n : Nat) (s : State) : Result :=
  readGptm n (fun g => readHalves g.config g.load) s

/-- GPTM.R.TBILR: load B (40_gptm.md R119). -/
def execGptmRTbilr (n : Nat) (s : State) : Result :=
  readGptm n (fun g => zextHalf g.load.b) s

/-- GPTM.R.TAMATCHR: match A, combined while `config < 4` (40_gptm.md R120). -/
def execGptmRTamatchr (n : Nat) (s : State) : Result :=
  readGptm n (fun g => readHalves g.config g.matchReg) s

/-- GPTM.R.TBMATCHR: match B (40_gptm.md R121). -/
def execGptmRTbmatchr (n : Nat) (s : State) : Result :=
  readGptm n (fun g => zextHalf g.matchReg.b) s

/-- GPTM.R.TAPR: prescale A (40_gptm.md R122). -/
def execGptmRTapr (n : Nat) (s : State) : Result :=
  readGptm n (fun g => g.prescale.a) s

/-- GPTM.R.TBPR: prescale B (40_gptm.md R123). -/
def execGptmRTbpr (n : Nat) (s : State) : Result :=
  readGptm n (fun g => g.prescale.b) s

/-- GPTM.R.TAPMR: match-prescale A (40_gptm.md R124). -/
def execGptmRTapmr (n : Nat) (s : State) : Result :=
  readGptm n (fun g => g.matchPrescale.a) s

/-- GPTM.R.TBPMR: match-prescale B (40_gptm.md R125). -/
def execGptmRTbpmr (n : Nat) (s : State) : Result :=
  readGptm n (fun g => g.matchPrescale.b) s

/-- GPTM.R.TAR: the RTC counter in RTC mode, a fault otherwise; under `Q_TAR_CONTROL_TEST` the test is on CTL (40_gptm.md R126). -/
def execGptmRTar (n : Nat) (s : State) : Result :=
  withGptm n s fun g =>
    if (if s.params.quirks.tarControlTest then g.control = 1#32 else g.config = 1#32) then returnValue g.rtcCounter s
    else takeFault .gptmTimerValue s

/-- GPTM.R.TBR: timer B's live value is unimplemented and always faults (40_gptm.md R127). -/
def execGptmRTbr (n : Nat) (s : State) : Result :=
  faultGptm n .gptmTimerValue s

/-- GPTM.R.UNDEF: an undefined offset always faults (40_gptm.md R128). -/
def execGptmRUndef (n : Nat) (_off : BitVec 12) (s : State) : Result :=
  faultGptm n .gptmBadOffset s

end Sys2Proof.Machine
end

