-- ==== Sys2Proof/Machine/GptmWrite.lean ====
section
/-! DEFINITION. The meanings of the GPTM register writes (40_gptm.md R130 to R148). The interrupt line is combinational,
so a write recomputes nothing (40_gptm.md R100, 60_exceptions.md R315). -/

namespace Sys2Proof.Machine

/-- GPTM.W.CFG: stored verbatim; nothing is armed or disarmed (40_gptm.md R130). -/
def execGptmWCfg (n : Nat) (v : Word) (s : State) : Result :=
  writeGptm n (fun g => { g with config := v }) s

/-- GPTM.W.TAMR: stored verbatim (40_gptm.md R131). -/
def execGptmWTamr (n : Nat) (v : Word) (s : State) : Result :=
  writeGptm n (fun g => { g with mode := g.mode.set .a v }) s

/-- GPTM.W.TBMR: stored verbatim (40_gptm.md R132). -/
def execGptmWTbmr (n : Nat) (v : Word) (s : State) : Result :=
  writeGptm n (fun g => { g with mode := g.mode.set .b v }) s

/-- GPTM.W.CTL: store, then act on the changes of TAEN and TBEN (40_gptm.md R133). -/
def execGptmWCtl (n : Nat) (v : Word) (s : State) : Result :=
  withGptm n s fun g => commitGptm n (g.writeControl s.params s.ssys.systemClockScale s.now v) s

/-- GPTM.W.IMR: stored under `GPTM_IMR_WMASK` (40_gptm.md R134). -/
def execGptmWImr (n : Nat) (v : Word) (s : State) : Result :=
  writeGptm n (fun g => { g with interruptMask := v &&& s.params.gptmImrWmask }) s

/-- GPTM.W.RIS: read-only, always faults (40_gptm.md R144). -/
def execGptmWRis (n : Nat) (_v : Word) (s : State) : Result :=
  faultGptm n .gptmBadOffset s

/-- GPTM.W.MIS: read-only, always faults (40_gptm.md R145). -/
def execGptmWMis (n : Nat) (_v : Word) (s : State) : Result :=
  faultGptm n .gptmBadOffset s

/-- GPTM.W.ICR: write one to clear of the raw status (40_gptm.md R135). -/
def execGptmWIcr (n : Nat) (v : Word) (s : State) : Result :=
  writeGptm n (fun g => { g with rawStatus := w1c g.rawStatus v }) s

/-- GPTM.W.TAILR: load A, and the high half while `config < 4` (40_gptm.md R136). -/
def execGptmWTailr (n : Nat) (v : Word) (s : State) : Result :=
  writeGptm n (fun g => { g with load := writeHalves g.config g.load v }) s

/-- GPTM.W.TBILR: load B (40_gptm.md R137). -/
def execGptmWTbilr (n : Nat) (v : Word) (s : State) : Result :=
  writeGptm n (fun g => { g with load := g.load.set .b (low16 v) }) s

/-- GPTM.W.TAMATCHR: match A, and the high half while `config < 4` (40_gptm.md R138). -/
def execGptmWTamatchr (n : Nat) (v : Word) (s : State) : Result :=
  writeGptm n (fun g => { g with matchReg := writeHalves g.config g.matchReg v }) s

/-- GPTM.W.TBMATCHR: match B; under `Q_TBMATCHR_HIGH` from the upper half of `v` (40_gptm.md R139). -/
def execGptmWTbmatchr (n : Nat) (v : Word) (s : State) : Result :=
  writeGptm n
    (fun g => { g with matchReg := g.matchReg.set .b (if s.params.quirks.tbmatchrHigh then high16 v else low16 v) }) s

/-- GPTM.W.TAPR: stored, with no effect (40_gptm.md R140). -/
def execGptmWTapr (n : Nat) (v : Word) (s : State) : Result :=
  writeGptm n (fun g => { g with prescale := g.prescale.set .a v }) s

/-- GPTM.W.TBPR: stored, with no effect (40_gptm.md R141). -/
def execGptmWTbpr (n : Nat) (v : Word) (s : State) : Result :=
  writeGptm n (fun g => { g with prescale := g.prescale.set .b v }) s

/-- GPTM.W.TAPMR: stored, with no effect (40_gptm.md R142). -/
def execGptmWTapmr (n : Nat) (v : Word) (s : State) : Result :=
  writeGptm n (fun g => { g with matchPrescale := g.matchPrescale.set .a v }) s

/-- GPTM.W.TBPMR: stored, with no effect; under `Q_TBPMR_TO_A` in channel A (40_gptm.md R143). -/
def execGptmWTbpmr (n : Nat) (v : Word) (s : State) : Result :=
  writeGptm n
    (fun g => { g with matchPrescale := g.matchPrescale.set (if s.params.quirks.tbpmrToA then .a else .b) v }) s

/-- GPTM.W.TAR: no write path, always faults (40_gptm.md R146). -/
def execGptmWTar (n : Nat) (_v : Word) (s : State) : Result :=
  faultGptm n .gptmBadOffset s

/-- GPTM.W.TBR: always faults (40_gptm.md R147). -/
def execGptmWTbr (n : Nat) (_v : Word) (s : State) : Result :=
  faultGptm n .gptmBadOffset s

/-- GPTM.W.UNDEF: an undefined offset always faults (40_gptm.md R148). -/
def execGptmWUndef (n : Nat) (_off : BitVec 12) (_v : Word) (s : State) : Result :=
  faultGptm n .gptmBadOffset s

end Sys2Proof.Machine
end

