-- ==== Sys2Proof/Machine/I2c.lean ====
section
/-! DEFINITION. The meanings of the I2C master operations (42_i2c.md R225 to R249, 70_reset_and_hazards.md R353, R366). -/

namespace Sys2Proof.Machine

/-- I2C.R.MSA: the slave address (42_i2c.md R225). -/
def execI2cRMsa (s : State) : Result :=
  readI2c (fun x => zextByte x.slaveAddress) s

/-- I2C.R.MCS: the status with IDLE forced to 1 (42_i2c.md R226). -/
def execI2cRMcs (s : State) : Result :=
  readI2c (fun x => x.controlStatus ||| Config.mcsIdle) s

/-- I2C.R.MDR: the data register (42_i2c.md R227). -/
def execI2cRMdr (s : State) : Result :=
  readI2c (fun x => zextByte x.dataRegister) s

/-- I2C.R.MTPR: the timing register (42_i2c.md R228). -/
def execI2cRMtpr (s : State) : Result :=
  readI2c (fun x => zextByte x.timingRegister) s

/-- I2C.R.MIMR: the interrupt mask (42_i2c.md R229). -/
def execI2cRMimr (s : State) : Result :=
  readI2c (fun x => x.interruptMask) s

/-- I2C.R.MRIS: the raw interrupt status (42_i2c.md R230). -/
def execI2cRMris (s : State) : Result :=
  readI2c (fun x => x.rawInterruptStatus) s

/-- I2C.R.MMIS: the masked interrupt status (42_i2c.md R231). -/
def execI2cRMmis (s : State) : Result :=
  readI2c (fun x => maskedStatus x.rawInterruptStatus x.interruptMask) s

/-- I2C.R.MICR: write-only, always faults (42_i2c.md R232). -/
def execI2cRMicr (s : State) : Result :=
  takeFault .i2cBadOffset s

/-- I2C.R.MCR: the master configuration (42_i2c.md R233). -/
def execI2cRMcr (s : State) : Result :=
  readI2c (fun x => x.masterConfig) s

/-- I2C.W.MSA: stored, 8 bits (42_i2c.md R240). -/
def execI2cWMsa (v : Word) (s : State) : Result :=
  writeI2c (fun x => { x with slaveAddress := low8 v }) s

/-- I2C.W.MCS: the command (42_i2c.md R241). -/
def execI2cWMcs (v : Word) (s : State) : Result :=
  let x := (I2cSide.mk s.i2c s.bus).command v
  .next { s with i2c := x.regs, bus := x.bus }

/-- I2C.W.MDR: stored, 8 bits (42_i2c.md R242). -/
def execI2cWMdr (v : Word) (s : State) : Result :=
  writeI2c (fun x => { x with dataRegister := low8 v }) s

/-- I2C.W.MTPR: stored, 8 bits, with no effect (42_i2c.md R243). -/
def execI2cWMtpr (v : Word) (s : State) : Result :=
  writeI2c (fun x => { x with timingRegister := low8 v }) s

/-- I2C.W.MIMR: stores `I2C_MIMR_FIXED` whatever is written (42_i2c.md R244). -/
def execI2cWMimr (_v : Word) (s : State) : Result :=
  writeI2c (fun x => { x with interruptMask := s.params.i2cMimrFixed }) s

/-- I2C.W.MRIS: read-only, always faults (42_i2c.md R245). -/
def execI2cWMris (_v : Word) (s : State) : Result :=
  takeFault .i2cBadOffset s

/-- I2C.W.MMIS: read-only, always faults (42_i2c.md R246). -/
def execI2cWMmis (_v : Word) (s : State) : Result :=
  takeFault .i2cBadOffset s

/-- I2C.W.MICR: write one to clear of the raw status (42_i2c.md R247). -/
def execI2cWMicr (v : Word) (s : State) : Result :=
  writeI2c (fun x => { x with rawInterruptStatus := w1c x.rawInterruptStatus v }) s

/-- I2C.W.MCR: loopback faults first, then slave mode; else stored under 0x31 (42_i2c.md R248). -/
def execI2cWMcr (v : Word) (s : State) : Result :=
  if lpbk v then takeFault .i2cLoopback s
  else if sfe v then takeFault .i2cSlaveMode s
  else writeI2c (fun x => { x with masterConfig := v &&& Config.mcrMask }) s

/-- I2C.R.UNDEF: an undefined offset always faults (42_i2c.md R234). -/
def execI2cRUndef (_off : BitVec 12) (s : State) : Result :=
  takeFault .i2cBadOffset s

/-- I2C.W.UNDEF: an undefined offset always faults (42_i2c.md R249). -/
def execI2cWUndef (_off : BitVec 12) (_v : Word) (s : State) : Result :=
  takeFault .i2cBadOffset s

/-- I2C.EV.RESTORE: restore the registers from a saved snapshot (70_reset_and_hazards.md R366). -/
def execI2cEvRestore (k : Word) (s : State) : Result :=
  restoreI2c k s

/-- I2C.EV.RESET: reset, releasing a bus that is owned (70_reset_and_hazards.md R353). -/
def execI2cEvReset (s : State) : Result :=
  resetI2c s

end Sys2Proof.Machine
end

