-- ==== Sys2Proof/Machine/Ssys.lean ====
section
/-! DEFINITION. The meanings of the SSYS operations (41_ssys.md R185 to R213, 70_reset_and_hazards.md R352, R366). A write
that does not fault recomputes the clock scale (41_ssys.md R183). -/

namespace Sys2Proof.Machine

/-- SSYS.R.DID0: board identity 0 (41_ssys.md R185). -/
def execSsysRDid0 (s : State) : Result :=
  readSsys (fun y => y.board.did0) s

/-- SSYS.R.DID1: board identity 1 (41_ssys.md R186). -/
def execSsysRDid1 (s : State) : Result :=
  readSsys (fun y => y.board.did1) s

/-- SSYS.R.DC0: capability word 0 (41_ssys.md R187). -/
def execSsysRDc0 (s : State) : Result :=
  readSsys (fun y => y.board.dc0) s

/-- SSYS.R.DC1: capability word 1 (41_ssys.md R188). -/
def execSsysRDc1 (s : State) : Result :=
  readSsys (fun y => y.board.dc1) s

/-- SSYS.R.DC2: capability word 2 (41_ssys.md R189). -/
def execSsysRDc2 (s : State) : Result :=
  readSsys (fun y => y.board.dc2) s

/-- SSYS.R.DC3: capability word 3 (41_ssys.md R190). -/
def execSsysRDc3 (s : State) : Result :=
  readSsys (fun y => y.board.dc3) s

/-- SSYS.R.DC4: capability word 4 (41_ssys.md R191). -/
def execSsysRDc4 (s : State) : Result :=
  readSsys (fun y => y.board.dc4) s

/-- SSYS.R.RCC: the clock-control register (41_ssys.md R192). -/
def execSsysRRcc (s : State) : Result :=
  readSsys (fun y => y.rccControl) s

/-- SSYS.R.CLKCFG: the clock-config register (41_ssys.md R193). -/
def execSsysRClkcfg (s : State) : Result :=
  readSsys (fun y => y.rccConfig) s

/-- SSYS.R.RCC2: the alternate clock-select register (41_ssys.md R194). -/
def execSsysRRcc2 (s : State) : Result :=
  readSsys (fun y => y.rcc2) s

/-- SSYS.R.CATCHALL.PBORCTL: read the catch-all word PBORCTL (41_ssys.md R195). -/
def execSsysRCatchallPborctl (s : State) : Result :=
  readCatchall .pborctl s

/-- SSYS.R.CATCHALL.LDOPCTL: read the catch-all word LDOPCTL (41_ssys.md R195). -/
def execSsysRCatchallLdopctl (s : State) : Result :=
  readCatchall .ldopctl s

/-- SSYS.R.CATCHALL.SRCR0: read the catch-all word SRCR0 (41_ssys.md R195). -/
def execSsysRCatchallSrcr0 (s : State) : Result :=
  readCatchall .srcr0 s

/-- SSYS.R.CATCHALL.SRCR1: read the catch-all word SRCR1 (41_ssys.md R195). -/
def execSsysRCatchallSrcr1 (s : State) : Result :=
  readCatchall .srcr1 s

/-- SSYS.R.CATCHALL.SRCR2: read the catch-all word SRCR2 (41_ssys.md R195). -/
def execSsysRCatchallSrcr2 (s : State) : Result :=
  readCatchall .srcr2 s

/-- SSYS.R.CATCHALL.RIS: read the catch-all word RIS (41_ssys.md R195). -/
def execSsysRCatchallRis (s : State) : Result :=
  readCatchall .ris s

/-- SSYS.R.CATCHALL.IMC: read the catch-all word IMC (41_ssys.md R195). -/
def execSsysRCatchallImc (s : State) : Result :=
  readCatchall .imc s

/-- SSYS.R.CATCHALL.MISC: read the catch-all word MISC (41_ssys.md R195). -/
def execSsysRCatchallMisc (s : State) : Result :=
  readCatchall .misc s

/-- SSYS.R.CATCHALL.RESC: read the catch-all word RESC (41_ssys.md R195). -/
def execSsysRCatchallResc (s : State) : Result :=
  readCatchall .resc s

/-- SSYS.R.CATCHALL.RCGC0: read the catch-all word RCGC0 (41_ssys.md R195). -/
def execSsysRCatchallRcgc0 (s : State) : Result :=
  readCatchall .rcgc0 s

/-- SSYS.R.CATCHALL.RCGC1: read the catch-all word RCGC1 (41_ssys.md R195). -/
def execSsysRCatchallRcgc1 (s : State) : Result :=
  readCatchall .rcgc1 s

/-- SSYS.R.CATCHALL.RCGC2: read the catch-all word RCGC2 (41_ssys.md R195). -/
def execSsysRCatchallRcgc2 (s : State) : Result :=
  readCatchall .rcgc2 s

/-- SSYS.R.CATCHALL.SCGC0: read the catch-all word SCGC0 (41_ssys.md R195). -/
def execSsysRCatchallScgc0 (s : State) : Result :=
  readCatchall .scgc0 s

/-- SSYS.R.CATCHALL.SCGC1: read the catch-all word SCGC1 (41_ssys.md R195). -/
def execSsysRCatchallScgc1 (s : State) : Result :=
  readCatchall .scgc1 s

/-- SSYS.R.CATCHALL.SCGC2: read the catch-all word SCGC2 (41_ssys.md R195). -/
def execSsysRCatchallScgc2 (s : State) : Result :=
  readCatchall .scgc2 s

/-- SSYS.R.CATCHALL.DCGC0: read the catch-all word DCGC0 (41_ssys.md R195). -/
def execSsysRCatchallDcgc0 (s : State) : Result :=
  readCatchall .dcgc0 s

/-- SSYS.R.CATCHALL.DCGC1: read the catch-all word DCGC1 (41_ssys.md R195). -/
def execSsysRCatchallDcgc1 (s : State) : Result :=
  readCatchall .dcgc1 s

/-- SSYS.R.CATCHALL.DCGC2: read the catch-all word DCGC2 (41_ssys.md R195). -/
def execSsysRCatchallDcgc2 (s : State) : Result :=
  readCatchall .dcgc2 s

/-- SSYS.R.CATCHALL.CLKVCLR: read the catch-all word CLKVCLR (41_ssys.md R195). -/
def execSsysRCatchallClkvclr (s : State) : Result :=
  readCatchall .clkvclr s

/-- SSYS.R.CATCHALL.LDOARST: read the catch-all word LDOARST (41_ssys.md R195). -/
def execSsysRCatchallLdoarst (s : State) : Result :=
  readCatchall .ldoarst s

/-- SSYS.R.CATCHALL.USER0: read the catch-all word USER0 (41_ssys.md R195). -/
def execSsysRCatchallUser0 (s : State) : Result :=
  readCatchall .user0 s

/-- SSYS.R.CATCHALL.USER1: read the catch-all word USER1 (41_ssys.md R195). -/
def execSsysRCatchallUser1 (s : State) : Result :=
  readCatchall .user1 s

/-- SSYS.W.DID0: immutable, always faults (41_ssys.md R207). -/
def execSsysWDid0 (_v : Word) (s : State) : Result :=
  takeFault .ssysBadOffset s

/-- SSYS.W.DID1: read-only, always faults (41_ssys.md R208). -/
def execSsysWDid1 (_v : Word) (s : State) : Result :=
  takeFault .ssysBadOffset s

/-- SSYS.W.DC0: read-only, always faults (41_ssys.md R209). -/
def execSsysWDc0 (_v : Word) (s : State) : Result :=
  takeFault .ssysBadOffset s

/-- SSYS.W.DC1: read-only, always faults (41_ssys.md R210). -/
def execSsysWDc1 (_v : Word) (s : State) : Result :=
  takeFault .ssysBadOffset s

/-- SSYS.W.DC2: read-only, always faults (41_ssys.md R211). -/
def execSsysWDc2 (_v : Word) (s : State) : Result :=
  takeFault .ssysBadOffset s

/-- SSYS.W.DC3: read-only, always faults (41_ssys.md R212). -/
def execSsysWDc3 (_v : Word) (s : State) : Result :=
  takeFault .ssysBadOffset s

/-- SSYS.W.DC4: read-only, always faults (41_ssys.md R213). -/
def execSsysWDc4 (_v : Word) (s : State) : Result :=
  takeFault .ssysBadOffset s

/-- SSYS.W.RCC: store, and mark the PLL on a 1-to-0 change of PWRDN (41_ssys.md R202). -/
def execSsysWRcc (v : Word) (s : State) : Result :=
  writeSsys (fun y => y.writeRcc v) s

/-- SSYS.W.CLKCFG: SEL_REQ is captured into SEL_CUR (41_ssys.md R203). -/
def execSsysWClkcfg (v : Word) (s : State) : Result :=
  writeSsys (fun y => { y with rccConfig := clkcfgValue v }) s

/-- SSYS.W.RCC2: stored, but for a Sandstorm board under `RCC2_IGNORED_ON_SANDSTORM`; log 15 (41_ssys.md R204). -/
def execSsysWRcc2 (v : Word) (s : State) : Result :=
  if s.params.rcc2IgnoredOnSandstorm then
    match boardClass s.ssys.board.did0 with
    | some .sandstorm => writeSsys (fun y => y) s
    | some .fury => writeSsys (fun y => { y with rcc2 := v }) s
    | none => takeFault .ssysBoardClass s
  else writeSsys (fun y => { y with rcc2 := v }) s

/-- SSYS.W.CATCHALL.PBORCTL: write the catch-all word PBORCTL, verbatim (41_ssys.md R205). -/
def execSsysWCatchallPborctl (v : Word) (s : State) : Result :=
  writeCatchall .pborctl v s

/-- SSYS.W.CATCHALL.LDOPCTL: write the catch-all word LDOPCTL, verbatim (41_ssys.md R205). -/
def execSsysWCatchallLdopctl (v : Word) (s : State) : Result :=
  writeCatchall .ldopctl v s

/-- SSYS.W.CATCHALL.SRCR0: write the catch-all word SRCR0, verbatim (41_ssys.md R205). -/
def execSsysWCatchallSrcr0 (v : Word) (s : State) : Result :=
  writeCatchall .srcr0 v s

/-- SSYS.W.CATCHALL.SRCR1: write the catch-all word SRCR1, verbatim (41_ssys.md R205). -/
def execSsysWCatchallSrcr1 (v : Word) (s : State) : Result :=
  writeCatchall .srcr1 v s

/-- SSYS.W.CATCHALL.SRCR2: write the catch-all word SRCR2, verbatim (41_ssys.md R205). -/
def execSsysWCatchallSrcr2 (v : Word) (s : State) : Result :=
  writeCatchall .srcr2 v s

/-- SSYS.W.CATCHALL.RIS: write the catch-all word RIS, verbatim (41_ssys.md R205). -/
def execSsysWCatchallRis (v : Word) (s : State) : Result :=
  writeCatchall .ris v s

/-- SSYS.W.CATCHALL.IMC: write the catch-all word IMC, verbatim (41_ssys.md R205). -/
def execSsysWCatchallImc (v : Word) (s : State) : Result :=
  writeCatchall .imc v s

/-- SSYS.W.CATCHALL.MISC: write the catch-all word MISC, verbatim (41_ssys.md R205). -/
def execSsysWCatchallMisc (v : Word) (s : State) : Result :=
  writeCatchall .misc v s

/-- SSYS.W.CATCHALL.RESC: write the catch-all word RESC, verbatim (41_ssys.md R205). -/
def execSsysWCatchallResc (v : Word) (s : State) : Result :=
  writeCatchall .resc v s

/-- SSYS.W.CATCHALL.RCGC0: write the catch-all word RCGC0, verbatim (41_ssys.md R205). -/
def execSsysWCatchallRcgc0 (v : Word) (s : State) : Result :=
  writeCatchall .rcgc0 v s

/-- SSYS.W.CATCHALL.RCGC1: write the catch-all word RCGC1, verbatim (41_ssys.md R205). -/
def execSsysWCatchallRcgc1 (v : Word) (s : State) : Result :=
  writeCatchall .rcgc1 v s

/-- SSYS.W.CATCHALL.RCGC2: write the catch-all word RCGC2, verbatim (41_ssys.md R205). -/
def execSsysWCatchallRcgc2 (v : Word) (s : State) : Result :=
  writeCatchall .rcgc2 v s

/-- SSYS.W.CATCHALL.SCGC0: write the catch-all word SCGC0, verbatim (41_ssys.md R205). -/
def execSsysWCatchallScgc0 (v : Word) (s : State) : Result :=
  writeCatchall .scgc0 v s

/-- SSYS.W.CATCHALL.SCGC1: write the catch-all word SCGC1, verbatim (41_ssys.md R205). -/
def execSsysWCatchallScgc1 (v : Word) (s : State) : Result :=
  writeCatchall .scgc1 v s

/-- SSYS.W.CATCHALL.SCGC2: write the catch-all word SCGC2, verbatim (41_ssys.md R205). -/
def execSsysWCatchallScgc2 (v : Word) (s : State) : Result :=
  writeCatchall .scgc2 v s

/-- SSYS.W.CATCHALL.DCGC0: write the catch-all word DCGC0, verbatim (41_ssys.md R205). -/
def execSsysWCatchallDcgc0 (v : Word) (s : State) : Result :=
  writeCatchall .dcgc0 v s

/-- SSYS.W.CATCHALL.DCGC1: write the catch-all word DCGC1, verbatim (41_ssys.md R205). -/
def execSsysWCatchallDcgc1 (v : Word) (s : State) : Result :=
  writeCatchall .dcgc1 v s

/-- SSYS.W.CATCHALL.DCGC2: write the catch-all word DCGC2, verbatim (41_ssys.md R205). -/
def execSsysWCatchallDcgc2 (v : Word) (s : State) : Result :=
  writeCatchall .dcgc2 v s

/-- SSYS.W.CATCHALL.CLKVCLR: write the catch-all word CLKVCLR, verbatim (41_ssys.md R205). -/
def execSsysWCatchallClkvclr (v : Word) (s : State) : Result :=
  writeCatchall .clkvclr v s

/-- SSYS.W.CATCHALL.LDOARST: write the catch-all word LDOARST, verbatim (41_ssys.md R205). -/
def execSsysWCatchallLdoarst (v : Word) (s : State) : Result :=
  writeCatchall .ldoarst v s

/-- SSYS.W.CATCHALL.USER0: write the catch-all word USER0, verbatim (41_ssys.md R205). -/
def execSsysWCatchallUser0 (v : Word) (s : State) : Result :=
  writeCatchall .user0 v s

/-- SSYS.W.CATCHALL.USER1: write the catch-all word USER1, verbatim (41_ssys.md R205). -/
def execSsysWCatchallUser1 (v : Word) (s : State) : Result :=
  writeCatchall .user1 v s

/-- SSYS.R.UNDEF: an undefined offset always faults (41_ssys.md R196). -/
def execSsysRUndef (_off : BitVec 12) (s : State) : Result :=
  takeFault .ssysBadOffset s

/-- SSYS.W.UNDEF: an undefined offset always faults (41_ssys.md R206). -/
def execSsysWUndef (_off : BitVec 12) (_v : Word) (s : State) : Result :=
  takeFault .ssysBadOffset s

/-- SSYS.EV.RESTORE: restore from a saved snapshot and recompute the scale (70_reset_and_hazards.md R366). -/
def execSsysEvRestore (k : Word) (s : State) : Result :=
  restoreSsys k s

/-- SSYS.EV.RESET: reset, or fault on an unrecognised board class (70_reset_and_hazards.md R352). -/
def execSsysEvReset (s : State) : Result :=
  resetSsys s

end Sys2Proof.Machine
end

