-- ==== Sys2Proof/Machine/Dispatch.lean ====
section
/-! DEFINITION. exec: one arm for each operation, each one call of its meaning. -/

namespace Sys2Proof.Machine

def exec (i : Instr) (s : State) : Host.Outcome State Fault Refusal :=
  match i with
  | .gptmRCfg n => Sys2Proof.Machine.execGptmRCfg n s
  | .gptmRTamr n => Sys2Proof.Machine.execGptmRTamr n s
  | .gptmRTbmr n => Sys2Proof.Machine.execGptmRTbmr n s
  | .gptmRCtl n => Sys2Proof.Machine.execGptmRCtl n s
  | .gptmRImr n => Sys2Proof.Machine.execGptmRImr n s
  | .gptmRRis n => Sys2Proof.Machine.execGptmRRis n s
  | .gptmRMis n => Sys2Proof.Machine.execGptmRMis n s
  | .gptmRIcr n => Sys2Proof.Machine.execGptmRIcr n s
  | .gptmRTailr n => Sys2Proof.Machine.execGptmRTailr n s
  | .gptmRTbilr n => Sys2Proof.Machine.execGptmRTbilr n s
  | .gptmRTamatchr n => Sys2Proof.Machine.execGptmRTamatchr n s
  | .gptmRTbmatchr n => Sys2Proof.Machine.execGptmRTbmatchr n s
  | .gptmRTapr n => Sys2Proof.Machine.execGptmRTapr n s
  | .gptmRTbpr n => Sys2Proof.Machine.execGptmRTbpr n s
  | .gptmRTapmr n => Sys2Proof.Machine.execGptmRTapmr n s
  | .gptmRTbpmr n => Sys2Proof.Machine.execGptmRTbpmr n s
  | .gptmRTar n => Sys2Proof.Machine.execGptmRTar n s
  | .gptmRTbr n => Sys2Proof.Machine.execGptmRTbr n s
  | .gptmWCfg n v => Sys2Proof.Machine.execGptmWCfg n v s
  | .gptmWTamr n v => Sys2Proof.Machine.execGptmWTamr n v s
  | .gptmWTbmr n v => Sys2Proof.Machine.execGptmWTbmr n v s
  | .gptmWCtl n v => Sys2Proof.Machine.execGptmWCtl n v s
  | .gptmWImr n v => Sys2Proof.Machine.execGptmWImr n v s
  | .gptmWRis n v => Sys2Proof.Machine.execGptmWRis n v s
  | .gptmWMis n v => Sys2Proof.Machine.execGptmWMis n v s
  | .gptmWIcr n v => Sys2Proof.Machine.execGptmWIcr n v s
  | .gptmWTailr n v => Sys2Proof.Machine.execGptmWTailr n v s
  | .gptmWTbilr n v => Sys2Proof.Machine.execGptmWTbilr n v s
  | .gptmWTamatchr n v => Sys2Proof.Machine.execGptmWTamatchr n v s
  | .gptmWTbmatchr n v => Sys2Proof.Machine.execGptmWTbmatchr n v s
  | .gptmWTapr n v => Sys2Proof.Machine.execGptmWTapr n v s
  | .gptmWTbpr n v => Sys2Proof.Machine.execGptmWTbpr n v s
  | .gptmWTapmr n v => Sys2Proof.Machine.execGptmWTapmr n v s
  | .gptmWTbpmr n v => Sys2Proof.Machine.execGptmWTbpmr n v s
  | .gptmWTar n v => Sys2Proof.Machine.execGptmWTar n v s
  | .gptmWTbr n v => Sys2Proof.Machine.execGptmWTbr n v s
  | .gptmRUndef n off => Sys2Proof.Machine.execGptmRUndef n off s
  | .gptmWUndef n off v => Sys2Proof.Machine.execGptmWUndef n off v s
  | .ssysRDid0 => Sys2Proof.Machine.execSsysRDid0 s
  | .ssysRDid1 => Sys2Proof.Machine.execSsysRDid1 s
  | .ssysRDc0 => Sys2Proof.Machine.execSsysRDc0 s
  | .ssysRDc1 => Sys2Proof.Machine.execSsysRDc1 s
  | .ssysRDc2 => Sys2Proof.Machine.execSsysRDc2 s
  | .ssysRDc3 => Sys2Proof.Machine.execSsysRDc3 s
  | .ssysRDc4 => Sys2Proof.Machine.execSsysRDc4 s
  | .ssysRRcc => Sys2Proof.Machine.execSsysRRcc s
  | .ssysRClkcfg => Sys2Proof.Machine.execSsysRClkcfg s
  | .ssysRRcc2 => Sys2Proof.Machine.execSsysRRcc2 s
  | .ssysRCatchallPborctl => Sys2Proof.Machine.execSsysRCatchallPborctl s
  | .ssysRCatchallLdopctl => Sys2Proof.Machine.execSsysRCatchallLdopctl s
  | .ssysRCatchallSrcr0 => Sys2Proof.Machine.execSsysRCatchallSrcr0 s
  | .ssysRCatchallSrcr1 => Sys2Proof.Machine.execSsysRCatchallSrcr1 s
  | .ssysRCatchallSrcr2 => Sys2Proof.Machine.execSsysRCatchallSrcr2 s
  | .ssysRCatchallRis => Sys2Proof.Machine.execSsysRCatchallRis s
  | .ssysRCatchallImc => Sys2Proof.Machine.execSsysRCatchallImc s
  | .ssysRCatchallMisc => Sys2Proof.Machine.execSsysRCatchallMisc s
  | .ssysRCatchallResc => Sys2Proof.Machine.execSsysRCatchallResc s
  | .ssysRCatchallRcgc0 => Sys2Proof.Machine.execSsysRCatchallRcgc0 s
  | .ssysRCatchallRcgc1 => Sys2Proof.Machine.execSsysRCatchallRcgc1 s
  | .ssysRCatchallRcgc2 => Sys2Proof.Machine.execSsysRCatchallRcgc2 s
  | .ssysRCatchallScgc0 => Sys2Proof.Machine.execSsysRCatchallScgc0 s
  | .ssysRCatchallScgc1 => Sys2Proof.Machine.execSsysRCatchallScgc1 s
  | .ssysRCatchallScgc2 => Sys2Proof.Machine.execSsysRCatchallScgc2 s
  | .ssysRCatchallDcgc0 => Sys2Proof.Machine.execSsysRCatchallDcgc0 s
  | .ssysRCatchallDcgc1 => Sys2Proof.Machine.execSsysRCatchallDcgc1 s
  | .ssysRCatchallDcgc2 => Sys2Proof.Machine.execSsysRCatchallDcgc2 s
  | .ssysRCatchallClkvclr => Sys2Proof.Machine.execSsysRCatchallClkvclr s
  | .ssysRCatchallLdoarst => Sys2Proof.Machine.execSsysRCatchallLdoarst s
  | .ssysRCatchallUser0 => Sys2Proof.Machine.execSsysRCatchallUser0 s
  | .ssysRCatchallUser1 => Sys2Proof.Machine.execSsysRCatchallUser1 s
  | .ssysWDid0 v => Sys2Proof.Machine.execSsysWDid0 v s
  | .ssysWDid1 v => Sys2Proof.Machine.execSsysWDid1 v s
  | .ssysWDc0 v => Sys2Proof.Machine.execSsysWDc0 v s
  | .ssysWDc1 v => Sys2Proof.Machine.execSsysWDc1 v s
  | .ssysWDc2 v => Sys2Proof.Machine.execSsysWDc2 v s
  | .ssysWDc3 v => Sys2Proof.Machine.execSsysWDc3 v s
  | .ssysWDc4 v => Sys2Proof.Machine.execSsysWDc4 v s
  | .ssysWRcc v => Sys2Proof.Machine.execSsysWRcc v s
  | .ssysWClkcfg v => Sys2Proof.Machine.execSsysWClkcfg v s
  | .ssysWRcc2 v => Sys2Proof.Machine.execSsysWRcc2 v s
  | .ssysWCatchallPborctl v => Sys2Proof.Machine.execSsysWCatchallPborctl v s
  | .ssysWCatchallLdopctl v => Sys2Proof.Machine.execSsysWCatchallLdopctl v s
  | .ssysWCatchallSrcr0 v => Sys2Proof.Machine.execSsysWCatchallSrcr0 v s
  | .ssysWCatchallSrcr1 v => Sys2Proof.Machine.execSsysWCatchallSrcr1 v s
  | .ssysWCatchallSrcr2 v => Sys2Proof.Machine.execSsysWCatchallSrcr2 v s
  | .ssysWCatchallRis v => Sys2Proof.Machine.execSsysWCatchallRis v s
  | .ssysWCatchallImc v => Sys2Proof.Machine.execSsysWCatchallImc v s
  | .ssysWCatchallMisc v => Sys2Proof.Machine.execSsysWCatchallMisc v s
  | .ssysWCatchallResc v => Sys2Proof.Machine.execSsysWCatchallResc v s
  | .ssysWCatchallRcgc0 v => Sys2Proof.Machine.execSsysWCatchallRcgc0 v s
  | .ssysWCatchallRcgc1 v => Sys2Proof.Machine.execSsysWCatchallRcgc1 v s
  | .ssysWCatchallRcgc2 v => Sys2Proof.Machine.execSsysWCatchallRcgc2 v s
  | .ssysWCatchallScgc0 v => Sys2Proof.Machine.execSsysWCatchallScgc0 v s
  | .ssysWCatchallScgc1 v => Sys2Proof.Machine.execSsysWCatchallScgc1 v s
  | .ssysWCatchallScgc2 v => Sys2Proof.Machine.execSsysWCatchallScgc2 v s
  | .ssysWCatchallDcgc0 v => Sys2Proof.Machine.execSsysWCatchallDcgc0 v s
  | .ssysWCatchallDcgc1 v => Sys2Proof.Machine.execSsysWCatchallDcgc1 v s
  | .ssysWCatchallDcgc2 v => Sys2Proof.Machine.execSsysWCatchallDcgc2 v s
  | .ssysWCatchallClkvclr v => Sys2Proof.Machine.execSsysWCatchallClkvclr v s
  | .ssysWCatchallLdoarst v => Sys2Proof.Machine.execSsysWCatchallLdoarst v s
  | .ssysWCatchallUser0 v => Sys2Proof.Machine.execSsysWCatchallUser0 v s
  | .ssysWCatchallUser1 v => Sys2Proof.Machine.execSsysWCatchallUser1 v s
  | .ssysRUndef off => Sys2Proof.Machine.execSsysRUndef off s
  | .ssysWUndef off v => Sys2Proof.Machine.execSsysWUndef off v s
  | .i2cRMsa => Sys2Proof.Machine.execI2cRMsa s
  | .i2cRMcs => Sys2Proof.Machine.execI2cRMcs s
  | .i2cRMdr => Sys2Proof.Machine.execI2cRMdr s
  | .i2cRMtpr => Sys2Proof.Machine.execI2cRMtpr s
  | .i2cRMimr => Sys2Proof.Machine.execI2cRMimr s
  | .i2cRMris => Sys2Proof.Machine.execI2cRMris s
  | .i2cRMmis => Sys2Proof.Machine.execI2cRMmis s
  | .i2cRMicr => Sys2Proof.Machine.execI2cRMicr s
  | .i2cRMcr => Sys2Proof.Machine.execI2cRMcr s
  | .i2cWMsa v => Sys2Proof.Machine.execI2cWMsa v s
  | .i2cWMcs v => Sys2Proof.Machine.execI2cWMcs v s
  | .i2cWMdr v => Sys2Proof.Machine.execI2cWMdr v s
  | .i2cWMtpr v => Sys2Proof.Machine.execI2cWMtpr v s
  | .i2cWMimr v => Sys2Proof.Machine.execI2cWMimr v s
  | .i2cWMris v => Sys2Proof.Machine.execI2cWMris v s
  | .i2cWMmis v => Sys2Proof.Machine.execI2cWMmis v s
  | .i2cWMicr v => Sys2Proof.Machine.execI2cWMicr v s
  | .i2cWMcr v => Sys2Proof.Machine.execI2cWMcr v s
  | .i2cRUndef off => Sys2Proof.Machine.execI2cRUndef off s
  | .i2cWUndef off v => Sys2Proof.Machine.execI2cWUndef off v s
  | .adcRActss => Sys2Proof.Machine.execAdcRActss s
  | .adcRRis => Sys2Proof.Machine.execAdcRRis s
  | .adcRIm => Sys2Proof.Machine.execAdcRIm s
  | .adcRIsc => Sys2Proof.Machine.execAdcRIsc s
  | .adcROstat => Sys2Proof.Machine.execAdcROstat s
  | .adcREmux => Sys2Proof.Machine.execAdcREmux s
  | .adcRUstat => Sys2Proof.Machine.execAdcRUstat s
  | .adcRSspri => Sys2Proof.Machine.execAdcRSspri s
  | .adcRPssi => Sys2Proof.Machine.execAdcRPssi s
  | .adcRSac => Sys2Proof.Machine.execAdcRSac s
  | .adcRSsmux0 => Sys2Proof.Machine.execAdcRSsmux0 s
  | .adcRSsctl0 => Sys2Proof.Machine.execAdcRSsctl0 s
  | .adcRSsfifo0 => Sys2Proof.Machine.execAdcRSsfifo0 s
  | .adcRSsfstat0 => Sys2Proof.Machine.execAdcRSsfstat0 s
  | .adcRSsmux1 => Sys2Proof.Machine.execAdcRSsmux1 s
  | .adcRSsctl1 => Sys2Proof.Machine.execAdcRSsctl1 s
  | .adcRSsfifo1 => Sys2Proof.Machine.execAdcRSsfifo1 s
  | .adcRSsfstat1 => Sys2Proof.Machine.execAdcRSsfstat1 s
  | .adcRSsmux2 => Sys2Proof.Machine.execAdcRSsmux2 s
  | .adcRSsctl2 => Sys2Proof.Machine.execAdcRSsctl2 s
  | .adcRSsfifo2 => Sys2Proof.Machine.execAdcRSsfifo2 s
  | .adcRSsfstat2 => Sys2Proof.Machine.execAdcRSsfstat2 s
  | .adcRSsmux3 => Sys2Proof.Machine.execAdcRSsmux3 s
  | .adcRSsctl3 => Sys2Proof.Machine.execAdcRSsctl3 s
  | .adcRSsfifo3 => Sys2Proof.Machine.execAdcRSsfifo3 s
  | .adcRSsfstat3 => Sys2Proof.Machine.execAdcRSsfstat3 s
  | .adcWActss v => Sys2Proof.Machine.execAdcWActss v s
  | .adcWRis v => Sys2Proof.Machine.execAdcWRis v s
  | .adcWIm v => Sys2Proof.Machine.execAdcWIm v s
  | .adcWIsc v => Sys2Proof.Machine.execAdcWIsc v s
  | .adcWOstat v => Sys2Proof.Machine.execAdcWOstat v s
  | .adcWEmux v => Sys2Proof.Machine.execAdcWEmux v s
  | .adcWUstat v => Sys2Proof.Machine.execAdcWUstat v s
  | .adcWSspri v => Sys2Proof.Machine.execAdcWSspri v s
  | .adcWPssi v => Sys2Proof.Machine.execAdcWPssi v s
  | .adcWSac v => Sys2Proof.Machine.execAdcWSac v s
  | .adcWSsmux0 v => Sys2Proof.Machine.execAdcWSsmux0 v s
  | .adcWSsctl0 v => Sys2Proof.Machine.execAdcWSsctl0 v s
  | .adcWSsfifo0 v => Sys2Proof.Machine.execAdcWSsfifo0 v s
  | .adcWSsfstat0 v => Sys2Proof.Machine.execAdcWSsfstat0 v s
  | .adcWSsmux1 v => Sys2Proof.Machine.execAdcWSsmux1 v s
  | .adcWSsctl1 v => Sys2Proof.Machine.execAdcWSsctl1 v s
  | .adcWSsfifo1 v => Sys2Proof.Machine.execAdcWSsfifo1 v s
  | .adcWSsfstat1 v => Sys2Proof.Machine.execAdcWSsfstat1 v s
  | .adcWSsmux2 v => Sys2Proof.Machine.execAdcWSsmux2 v s
  | .adcWSsctl2 v => Sys2Proof.Machine.execAdcWSsctl2 v s
  | .adcWSsfifo2 v => Sys2Proof.Machine.execAdcWSsfifo2 v s
  | .adcWSsfstat2 v => Sys2Proof.Machine.execAdcWSsfstat2 v s
  | .adcWSsmux3 v => Sys2Proof.Machine.execAdcWSsmux3 v s
  | .adcWSsctl3 v => Sys2Proof.Machine.execAdcWSsctl3 v s
  | .adcWSsfifo3 v => Sys2Proof.Machine.execAdcWSsfifo3 v s
  | .adcWSsfstat3 v => Sys2Proof.Machine.execAdcWSsfstat3 v s
  | .adcRUndef off => Sys2Proof.Machine.execAdcRUndef off s
  | .adcWUndef off v => Sys2Proof.Machine.execAdcWUndef off v s
  | .gptmEvFireA n => Sys2Proof.Machine.execGptmEvFireA n s
  | .gptmEvFireB n => Sys2Proof.Machine.execGptmEvFireB n s
  | .gptmEvRestore n k => Sys2Proof.Machine.execGptmEvRestore n k s
  | .gptmEvReset n => Sys2Proof.Machine.execGptmEvReset n s
  | .ssysEvRestore k => Sys2Proof.Machine.execSsysEvRestore k s
  | .ssysEvReset => Sys2Proof.Machine.execSsysEvReset s
  | .i2cEvRestore k => Sys2Proof.Machine.execI2cEvRestore k s
  | .i2cEvReset => Sys2Proof.Machine.execI2cEvReset s
  | .adcEvTrigger => Sys2Proof.Machine.execAdcEvTrigger s
  | .adcEvRestore k => Sys2Proof.Machine.execAdcEvRestore k s
  | .adcEvReset => Sys2Proof.Machine.execAdcEvReset s

end Sys2Proof.Machine
end

