-- ==== Sys2Proof/Machine/Access.lean ====
section
/-! DEFINITION. What each stimulus does: the host's register access with its checks before decode (20_memory.md R72, R74,
60_exceptions.md R313), an internal event, the virtual clock's advance, Reset(all), Save, the I2C bus environment steps,
and the enabling conditions of `FIRE_TIMING` (20_memory.md R82, R83). -/

namespace Sys2Proof.Machine

/-- The undefined-offset fault of a block (60_exceptions.md R311). -/
def badOffset (b : Block) : FaultCode :=
  match b with
  | .gptm => .gptmBadOffset
  | .ssys => .ssysBadOffset
  | .i2c => .i2cBadOffset
  | .adc => .adcBadOffset

/-- The base of a block's region, `n` the GPTM instance, where the board gives it one (00_scope.md R10 `BASE_*`, 20_memory.md
R71). -/
def Params.base? (p : Params) (b : Block) (n : Nat) : Option Nat :=
  match b with
  | .gptm => p.baseGptm[n]?
  | .ssys => some p.baseSsys
  | .i2c => some p.baseI2c
  | .adc => some p.baseAdc

/-- The bus address of offset `off` of a block, `n` the GPTM instance. The bus fabric that would route such an address is
out of scope (20_memory.md R70), so no step reads this (log 20). -/
def Params.busAddress (p : Params) (b : Block) (n off : Nat) : Option Nat :=
  (Params.base? p b n).map (· + off)

/-- Some armed deadline of the instance equals `now` (20_memory.md R83). -/
def Gptm.dueAt (g : Gptm) (now : Nat) : Bool :=
  (g.armed.a && decide (g.nextDeadline.a = now)) || (g.armed.b && decide (g.nextDeadline.b = now))

/-- Under `FIRE_TIMING = exact`, no access, reset or save is enabled while an armed deadline equals `now`
(20_memory.md R83). -/
def State.hostBlocked (s : State) : Bool :=
  match s.params.fireTiming with
  | .free => false
  | .exact => s.gptm.any fun g => g.dueAt s.now

/-- No armed deadline of the instance lies before `t`. -/
def Gptm.noDeadlineBefore (g : Gptm) (t : Nat) : Bool :=
  (!g.armed.a || decide (t ≤ g.nextDeadline.a)) && (!g.armed.b || decide (t ≤ g.nextDeadline.b))

/-- Under `FIRE_TIMING = exact`, time cannot pass an armed deadline (20_memory.md R83). -/
def State.mayAdvanceTo (s : State) (t : Nat) : Bool :=
  match s.params.fireTiming with
  | .free => true
  | .exact => s.gptm.all fun g => g.noDeadlineBefore t

/-- The instance an operation on a block needs is one the board has (log 23). -/
def State.hasBlock (s : State) (b : Block) (n : Nat) : Bool :=
  match b with
  | .gptm => decide (n < s.gptm.length)
  | .ssys => true
  | .i2c => true
  | .adc => true

/-- Decode an operation and run it (30_encoding.md R91). -/
def runRequest (r : OpRequest) (s : State) : Result :=
  match decode r with
  | .ok i => exec i s
  | .error (.noSuchEvent w) => .refused (.noSuchEvent w)

/-- `BusRead` and `BusWrite`: the size and alignment check, the region check, then decode and run
(20_memory.md R72, 60_exceptions.md R313). An offset inside the region that an operation word's 12 bits do not hold is no
row of any map (30_encoding.md R90, R96), so it raises the same fault; with `REGION_SIZE` = 0x1000 there is none. -/
def busAccess (d : Dir) (b : Block) (n off size : Nat) (v : Word) (s : State) : Result :=
  if !s.hasBlock b n then .refused (.noSuchInstance n)
  else if size ≠ 4 ∨ off % 4 ≠ 0 then takeFault .accessSize s
  else if s.params.regionSize ≤ off ∨ 0x1000 ≤ off then takeFault (badOffset b) s
  else runRequest ⟨accessWord b d (BitVec.ofNat 12 off), n, v⟩ s

/-- The operation is one of the four block resets (30_encoding.md R97). -/
def isReset (r : OpRequest) : Bool :=
  match decode r with
  | .ok (.gptmEvReset _) | .ok .ssysEvReset | .ok .i2cEvReset | .ok .adcEvReset => true
  | _ => false

/-- The operation is the ADC trigger event (43_adc.md R305). -/
def isTrigger (r : OpRequest) : Bool :=
  match decode r with
  | .ok .adcEvTrigger => true
  | _ => false

/-- An internal event: decode and run, a reset only where it is enabled, the ADC trigger only on a board that wires a source
of its own to it (20_memory.md R82, R83, 43_adc.md R305; log 19). -/
def runEvent (e : BitVec 15) (n : Nat) (k : Word) (s : State) : Result :=
  if isReset ⟨1#1 ++ e, n, k⟩ && s.hostBlocked then .refused .fireDueFirst
  else if isTrigger ⟨1#1 ++ e, n, k⟩ && !s.params.adcTriggerWired then .refused .triggerNotAStep
  else runRequest ⟨1#1 ++ e, n, k⟩ s

/-- `Advance(t)` (20_memory.md R82, R83). -/
def advanceTo (t : Nat) (s : State) : Result :=
  if t < s.now then .refused .timeBackwards
  else if s.mayAdvanceTo t then .next { s with now := t }
  else .refused .fireDueFirst

/-- An environment step of the I2C bus from one holder to another (42_i2c.md R220). DESIGN CHOICE (log 32): `BUS busy=0|1`
of 30_encoding.md R99 is this step, and it is refused where the holder is not the one the step starts from (`busy=1` on a bus
that is held, `busy=0` on a bus that is free or held by this controller), a case for which R99 gives no condition. -/
def busStep (before after : BusHolder) (s : State) : Result :=
  if s.bus.holder = before then .next { s with bus := { s.bus with holder := after } }
  else .refused .busStepNotEnabled

/-- A host step (access, reset, save), refused where `FIRE_TIMING = exact` forbids it (20_memory.md R83). -/
def hostStep (k : State → Result) (s : State) : Result :=
  if s.hostBlocked then .refused .fireDueFirst else k s

/-- What a stimulus does (20_memory.md R82). -/
def perform (x : Stimulus) (s : State) : Result :=
  match x with
  | .access d b n off size v => hostStep (busAccess d b n off size v) s
  | .event e n k => runEvent e n k s
  | .advance t => advanceTo t s
  | .resetAll => hostStep resetAll s
  | .save b n => hostStep (saveBlock b n) s
  | .busTaken => busStep .none .other s
  | .busLetGo => busStep .other .none s
  | .answerAcquire ok => .next { s with bus := { s.bus with nextAcquire := some ok } }
  | .answerRecv x => .next { s with bus := { s.bus with nextRecv := some x } }

/-- The stimulus that an operation word stands for, its operands 0: an aligned or misaligned 32-bit access for a word
of kind 0, an event for a word of kind 1 (30_encoding.md R90). -/
def wordStimulus (w : BitVec 16) : Stimulus :=
  if kindField w = 0#1 then
    .access (Dir.ofBit (dirField w)) (Block.ofBits (blockField w)) 0 (offsetField w).toNat 4 0#32
  else .event (w.extractLsb' 0 15) 0 0#32

/-- The snapshot operand of a RESTORE word with operand 0: where nothing is saved yet, the block's own snapshot as
`Save` would give it now (log 1). Any other word leaves the saved snapshots as they are. -/
def snapshotOperand (w : BitVec 16) (s : State) : Saved :=
  match decode ⟨w, 0, 0#32⟩ with
  | .ok (.gptmEvRestore _ _) => if s.saved.gptm.isEmpty then { s.saved with gptm := s.gptm.take 1 } else s.saved
  | .ok (.ssysEvRestore _) => if s.saved.ssys.isEmpty then { s.saved with ssys := [s.ssys.snapshot] } else s.saved
  | .ok (.i2cEvRestore _) => if s.saved.i2c.isEmpty then { s.saved with i2c := [s.i2c] } else s.saved
  | .ok (.adcEvRestore _) => if s.saved.adc.isEmpty then { s.saved with adc := [s.adc] } else s.saved
  | _ => s.saved

/-- A channel whose deadline can be delivered now: as it is where it already is due, else armed at `now` (log 1). -/
def Gptm.madeDue (now : Nat) (c : Channel) (g : Gptm) : Gptm :=
  if g.fireEnabled c now then g else g.arm c now

/-- The deadline that the delivery of a FIRE word takes: the channel of instance 0 due (log 1). Any other word leaves the
instances as they are. -/
def dueOperand (w : BitVec 16) (s : State) : List Gptm :=
  match decode ⟨w, 0, 0#32⟩ with
  | .ok (.gptmEvFireA _) => (s.gptm.take 1).map (Gptm.madeDue s.now .a) ++ s.gptm.drop 1
  | .ok (.gptmEvFireB _) => (s.gptm.take 1).map (Gptm.madeDue s.now .b) ++ s.gptm.drop 1
  | _ => s.gptm

/-- The board on which the word is a step: one that wires the trigger input for the ADC trigger event (43_adc.md R305;
log 1, log 19). Any other word leaves the parameters as they are. -/
def boardOperand (w : BitVec 16) (s : State) : Params :=
  if isTrigger ⟨w, 0, 0#32⟩ then { s.params with adcTriggerWired := true } else s.params

/-- The state with an operation word placed as the next stimulus, and what that stimulus takes (log 1). -/
def placeWord (w : BitVec 16) (s : State) : State :=
  { s with
    params := boardOperand w s
    gptm := dueOperand w s
    saved := snapshotOperand w s
    pending := wordStimulus w :: s.pending }

end Sys2Proof.Machine
end

