-- ==== Sys2Proof/Machine/Step.lean ====
section
/-! DEFINITION. One step of the machine: no step once `faulted` is set (20_memory.md R87, 60_exceptions.md R312), else
the next stimulus that an agent has placed (20_memory.md R82; log 1). -/

namespace Sys2Proof.Machine

/-- One step. -/
def step (s : State) : Host.Outcome State Fault Refusal :=
  match s.faulted with
  | some code => .fault (.halted code)
  | none =>
    match s.pending with
    | [] => .refused .noStimulus
    | x :: rest => perform x { s with pending := rest }

/-- The state whose next step runs the operation word `w`, with operands 0 (30_encoding.md R90; log 1). -/
def State.withFetchWord (s : State) (nbits w : Nat) : State :=
  placeWord (BitVec.ofNat 16 (w % 2 ^ nbits)) s

end Sys2Proof.Machine
end

