-- ==== Sys2Proof/Safety.lean ====
section
/-! DEFINITION. What claims about runs speak of: a step under a stimulus of any agent, the states a machine reaches, runs
and their fairness (20_memory.md R82, R85), the invariants that the spec's tables state of the stored registers, and the
occupancy of a FIFO (43_adc.md R308). -/

namespace Sys2Proof.Machine

/-- The operation word `w`, with the instance `n` and the data `v` beside it, decodes to the operation `i`, and exec of `i`
at `s` answers the next state `t` (30_encoding.md R90, R91). -/
def WordRuns (w : BitVec 16) (n : Nat) (v : Word) (i : Instr) (s t : State) : Prop :=
  decode ⟨w, n, v⟩ = .ok i ∧ exec i s = .next t

/-- Some agent's stimulus `x` takes `s` to `t`: the run goes on only while no fault is recorded (20_memory.md R82, R87). -/
def StepBy (x : Stimulus) (s t : State) : Prop :=
  s.faulted = none ∧ perform x s = .next t

/-- `t` can be reached from `s` by steps of the agents (20_memory.md R82). -/
inductive Reaches : State → State → Prop where
  | refl (s : State) : Reaches s s
  | tail {s t u : State} (x : Stimulus) : Reaches s t → StepBy x t u → Reaches s u

/-- The steps of a list of stimuli, one after the other as `step` takes them, until one does not answer a next state
(20_memory.md R77, R82). -/
def performAll : List Stimulus → State → Result
  | [], s => .next s
  | x :: xs, s =>
    match s.faulted with
    | some code => .fault (.halted code)
    | none =>
      match perform x s with
      | .next t => performAll xs t
      | .fault r => .fault r
      | .refused r => .refused r

/-- An infinite run with the stimulus of each step (20_memory.md R82). -/
def IsRun (stimulus : Nat → Stimulus) (state : Nat → State) : Prop :=
  ∀ k, StepBy (stimulus k) (state k) (state (k + 1))

/-- The fire event of channel `c` on instance `n` (30_encoding.md R97). -/
def fireStimulus (n : Nat) (c : Channel) (k : Word) : Stimulus :=
  match c with
  | .a => .event 0x0000#15 n k
  | .b => .event 0x0001#15 n k

/-- The stimulus is a fire event of channel A of instance `n` (30_encoding.md R97). -/
def isFireA (n : Nat) (x : Stimulus) : Bool :=
  match x with
  | .event e m _ => decide (e = 0x0000#15) && decide (m = n)
  | _ => false

/-- The stimulus is an advance of the virtual time (20_memory.md R82). -/
def isAdvance (x : Stimulus) : Bool :=
  match x with
  | .advance _ => true
  | _ => false

/-- Channel `c` of instance `n` is armed with its deadline not after `now` (20_memory.md R83). -/
def State.overdue (s : State) (n : Nat) (c : Channel) : Prop :=
  ∃ g, s.gptm[n]? = some g ∧ g.fireEnabled c s.now = true

/-- The fairness assumption on infinite runs: no overdue channel waits for ever without its fire, and time is unbounded
(20_memory.md R85; log 11). -/
def Fair (stimulus : Nat → Stimulus) (state : Nat → State) : Prop :=
  (∀ j n c, (state j).overdue n c →
    ∃ k, j ≤ k ∧ ((∃ w, stimulus k = fireStimulus n c w) ∨ ¬ (state k).overdue n c)) ∧
  (∀ t, ∃ k, t ≤ (state k).now)

/-- What a GPTM instance's stored registers satisfy: IMR within its mask (10_state.md R28), RIS only bits 0 and 3
(R27), and channel B never armed (40_gptm.md R151), the last unless `Q_PWM_IMMEDIATE_FIRE` is set. -/
structure Gptm.Inv (p : Params) (g : Gptm) : Prop where
  mask : g.interruptMask &&& ~~~p.gptmImrWmask = 0#32
  status : g.rawStatus &&& ~~~0x9#32 = 0#32
  noB : p.quirks.pwmImmediateFire = false → g.armed.b = false

/-- SEL_CUR equals SEL_REQ (10_state.md R39). -/
def SelCaptured (clkcfg : Word) : Prop := clkcfg.extractLsb' 2 2 = clkcfg.extractLsb' 0 2

/-- The FIFO capacity is one that the 4-bit indices of a FIFO state word can hold (10_state.md R58, 43_adc.md R260). -/
structure Params.Inv (p : Params) : Prop where
  capPos : 1 ≤ p.fifoCap
  capMax : p.fifoCap ≤ 16

/-- What the SSYS state satisfies: the scale is the one its registers give (41_ssys.md R180), SEL_CUR equals SEL_REQ
(10_state.md R39), and the board class is a recognised one (41_ssys.md R182). -/
structure Ssys.Inv (p : Params) (y : Ssys) : Prop where
  scale : y.systemClockScale = clockScale p y.rccControl y.rcc2
  sel : SelCaptured y.rccConfig
  board : boardClass y.board.did0 ≠ none

/-- What the I2C registers satisfy: only ERROR, ARBLST and BUSBSY are stored in MCS (10_state.md R44), MCR holds at
most MFE (R49, 42_i2c.md R233), MIMR is 0 or the fixed value (42_i2c.md R229), MRIS is at most bit 0 (10_state.md R48). -/
structure I2c.Inv (p : Params) (x : I2c) : Prop where
  status : x.controlStatus &&& ~~~0x52#32 = 0#32
  config : x.masterConfig &&& ~~~0x10#32 = 0#32
  mask : x.interruptMask = 0#32 ∨ x.interruptMask = p.i2cMimrFixed
  raw : x.rawInterruptStatus &&& ~~~0x1#32 = 0#32

/-- A legal FIFO state word: the unnamed bits are 0 (10_state.md R58); head and tail are indices below the capacity; when
they meet, exactly one of EMPTY and FULL holds, and otherwise neither (43_adc.md R260). -/
structure FifoLegal (p : Params) (st : Word) : Prop where
  unnamed : st &&& ~~~0x11FF#32 = 0#32
  tail : (fifoTail st).toNat < p.fifoCap
  head : (fifoHead st).toNat < p.fifoCap
  meet : fifoHead st = fifoTail st → fifoEmpty st = !fifoFull st
  apart : fifoHead st ≠ fifoTail st → fifoEmpty st = false ∧ fifoFull st = false

/-- What the ADC state satisfies: RIS, OSTAT and USTAT only bits 0 to 3 (10_state.md R52, R55), SSMUXn within its mask
and SSCTLn 0 or the supported value (R57), and every FIFO state word legal (R58, 43_adc.md R260), the last unless
`Q_ADC_FIFO_TAIL_UNMASKED` is set (43_adc.md R308). -/
structure Adc.Inv (p : Params) (a : Adc) : Prop where
  raw : a.rawInterruptStatus &&& ~~~0xF#32 = 0#32
  overflow : a.overflow &&& ~~~0xF#32 = 0#32
  underflow : a.underflow &&& ~~~0xF#32 = 0#32
  mux : ∀ n : Fin 4, a.mux[n] &&& ~~~Config.ssmuxMask = 0#32
  ctl : ∀ n : Fin 4, a.ctl[n] = 0#32 ∨ a.ctl[n] = p.adcSsctlSupported
  fifo : p.quirks.adcFifoTailUnmasked = false → ∀ n : Fin 4, FifoLegal p a.fifo[n].state

/-- The invariant of the whole machine: the capacity's, each block's, and the same of every saved snapshot. -/
structure State.Inv (s : State) : Prop where
  params : Params.Inv s.params
  gptm : ∀ g ∈ s.gptm, g.Inv s.params
  ssys : s.ssys.Inv s.params
  i2c : s.i2c.Inv s.params
  adc : s.adc.Inv s.params
  savedGptm : ∀ g ∈ s.saved.gptm, g.Inv s.params
  savedSsys : ∀ y ∈ s.saved.ssys, SelCaptured y.rccConfig
  savedI2c : ∀ x ∈ s.saved.i2c, x.Inv s.params
  savedAdc : ∀ a ∈ s.saved.adc, a.Inv s.params

/-- `occ(n)` of a FIFO state word: `(head − tail)` modulo the capacity, the capacity when FULL and 0 when EMPTY
(43_adc.md R308). -/
def occupancy (p : Params) (st : Word) : Nat :=
  if fifoFull st then p.fifoCap
  else if fifoEmpty st then 0
  else ((fifoHead st).toNat + p.fifoCap - (fifoTail st).toNat) % p.fifoCap

end Sys2Proof.Machine
end

