-- ==== Sys2Proof/Certificates/Slice0/Obligations.lean ====
section
/-! DEFINITION. The statements for the provers. They follow the rules of spec/ family by family: decode and step, GPTM,
SSYS, I2C, ADC, reset, save and restore, and the whole machine. A statement whose conclusion is an equation
`exec … = .next t`, or `WordRuns … t`, with `t` written as an update of `s`, is the frame as well: every field that the
update does not name is unchanged. -/

open Sys2Proof Sys2Proof.Machine

/-! ## Decode, access and step -/

/-- A step runs the decoded operation: an aligned 32-bit access inside the region, or an event that `FIRE_TIMING` does not
hold back (the ADC trigger where a board makes it a step of its own), at the head of the stimuli. Model's own: the list of
stimuli (log 1). -/
def Obligations.StepRunsDecodedOperation : Prop :=
  ∀ (s : State) (rest : List Stimulus) (i : Instr), s.faulted = none → i.wellFormed = true →
    (∀ (d : Dir) (b : Block) (n off : Nat) (v : Word),
      s.pending = .access d b n off 4 v :: rest → s.hasBlock b n = true → off % 4 = 0 → off < s.params.regionSize →
      off < 0x1000 → s.hostBlocked = false → decode ⟨accessWord b d (BitVec.ofNat 12 off), n, v⟩ = .ok i →
      step s = exec i { s with pending := rest }) ∧
    (∀ (e : BitVec 15) (n : Nat) (k : Word),
      s.pending = .event e n k :: rest → decode ⟨1#1 ++ e, n, k⟩ = .ok i →
      (s.hostBlocked = false ∨ isReset ⟨1#1 ++ e, n, k⟩ = false) →
      (s.params.adcTriggerWired = true ∨ i ≠ .adcEvTrigger) →
      step s = exec i { s with pending := rest })

/-- 20_memory.md R72, R74: the size and alignment check, then the region check, then decode. The fault of the region check
is each block's own (60_exceptions.md R311). Model's reading: an offset inside a region larger than 0x1000 that no operation
word can hold is no row of any map (log 16). -/
def Obligations.AccessChecksComeBeforeDecode : Prop :=
  ∀ (s : State) (d : Dir) (n off size : Nat) (v : Word), s.hostBlocked = false →
    (∀ b, s.hasBlock b n = true → (size ≠ 4 ∨ off % 4 ≠ 0) →
      perform (.access d b n off size v) s = .next { s with faulted := some .accessSize }) ∧
    (size = 4 → off % 4 = 0 → (s.params.regionSize ≤ off ∨ 0x1000 ≤ off) →
      (n < s.gptm.length →
        perform (.access d .gptm n off size v) s = .next { s with faulted := some .gptmBadOffset }) ∧
      perform (.access d .ssys n off size v) s = .next { s with faulted := some .ssysBadOffset } ∧
      perform (.access d .i2c n off size v) s = .next { s with faulted := some .i2cBadOffset } ∧
      perform (.access d .adc n off size v) s = .next { s with faulted := some .adcBadOffset }) ∧
    (∀ b, s.hasBlock b n = true → size = 4 → off % 4 = 0 → off < s.params.regionSize → off < 0x1000 →
      perform (.access d b n off size v) s = exec (decodeAccess b d (BitVec.ofNat 12 off) n v) s)

/-- 60_exceptions.md R312, 20_memory.md R87: raising a fault records its code and changes nothing else, and no step is
enabled afterwards. The outcome that says so, `halted`, is the model's reading (log 3). -/
def Obligations.FaultIsTerminal : Prop :=
  ∀ (s : State) (c : FaultCode),
    takeFault c s = .next { s with faulted := some c } ∧
    (s.faulted = some c → step s = .fault (.halted c)) ∧
    ∀ t, takeFault c s = .next t → step t = .fault (.halted c)

/-- 30_encoding.md R90, R91, R97: the eleven event words, and every other word of kind 1 is refused. Model's reading: a word
of kind 1 with bit 12 set is no event, whatever its code (log 18). -/
def Obligations.EventWordsDecodeOrAreRefused : Prop :=
  ∀ (n : Nat) (k : Word),
    decode ⟨0x8000#16, n, k⟩ = .ok (.gptmEvFireA n) ∧ decode ⟨0x8001#16, n, k⟩ = .ok (.gptmEvFireB n) ∧
    decode ⟨0x8FFE#16, n, k⟩ = .ok (.gptmEvRestore n k) ∧ decode ⟨0x8FFF#16, n, k⟩ = .ok (.gptmEvReset n) ∧
    decode ⟨0xAFFE#16, n, k⟩ = .ok (.ssysEvRestore k) ∧ decode ⟨0xAFFF#16, n, k⟩ = .ok .ssysEvReset ∧
    decode ⟨0xCFFE#16, n, k⟩ = .ok (.i2cEvRestore k) ∧ decode ⟨0xCFFF#16, n, k⟩ = .ok .i2cEvReset ∧
    decode ⟨0xE000#16, n, k⟩ = .ok .adcEvTrigger ∧ decode ⟨0xEFFE#16, n, k⟩ = .ok (.adcEvRestore k) ∧
    decode ⟨0xEFFF#16, n, k⟩ = .ok .adcEvReset ∧
    ∀ w : BitVec 16, w.getLsbD 15 = true →
      w ∉ [0x8000#16, 0x8001#16, 0x8FFE#16, 0x8FFF#16, 0xAFFE#16, 0xAFFF#16, 0xCFFE#16, 0xCFFF#16, 0xE000#16, 0xEFFE#16,
        0xEFFF#16] →
      decode ⟨w, n, k⟩ = .error (.noSuchEvent w)

/-- A few words written out field by field (K, B, D, offset) decode to the operations of 30_encoding.md R92 to R95. -/
def Obligations.WordsOfEachBlockDecode : Prop :=
  ∀ (n : Nat) (v : Word),
    decode ⟨0b0000000000001100#16, n, v⟩ = .ok (.gptmRCtl n) ∧
    decode ⟨0b0001000000001100#16, n, v⟩ = .ok (.gptmWCtl n v) ∧
    decode ⟨0b0010000001100000#16, n, v⟩ = .ok .ssysRRcc ∧
    decode ⟨0b0011000001010000#16, n, v⟩ = .ok (.ssysWCatchallRis v) ∧
    decode ⟨0b0100000000000100#16, n, v⟩ = .ok .i2cRMcs ∧
    decode ⟨0b0101000000010000#16, n, v⟩ = .ok (.i2cWMimr v) ∧
    decode ⟨0b0110000010101000#16, n, v⟩ = .ok .adcRSsfifo3 ∧
    decode ⟨0b0111000001000100#16, n, v⟩ = .ok (.adcWSsctl0 v) ∧
    decode ⟨0b0000000000010000#16, n, v⟩ = .ok (.gptmRUndef n 0x010#12)

/-- Decode and encode agree: every well-formed operation, with every operand, decodes back from its encoding
(30_encoding.md R90 to R97). -/
def Obligations.DecodeOfEncodeIsIdentity : Prop :=
  ∀ i : Instr, i.wellFormed = true → decode (encode i) = .ok i

/-- Each word has one meaning: what a word decodes to is well formed and encodes back to that word
(30_encoding.md R90 to R97). -/
def Obligations.EncodeOfDecodeGivesTheWord : Prop :=
  ∀ (r : OpRequest) (i : Instr), decode r = .ok i → i.wellFormed = true ∧ (encode i).word = r.word

/-- 30_encoding.md R96 and the UNDEF rules: an offset that is no row of the map raises the block's fault. -/
def Obligations.UndefinedOffsetsFault : Prop :=
  ∀ (s : State) (n : Nat) (off : BitVec 12) (v : Word),
    (n < s.gptm.length → gptmOffsets.contains off.toNat = false →
      WordRuns (accessWord .gptm .read off) n v (.gptmRUndef n off) s { s with faulted := some .gptmBadOffset } ∧
      WordRuns (accessWord .gptm .write off) n v (.gptmWUndef n off v) s { s with faulted := some .gptmBadOffset }) ∧
    (ssysOffsets.contains off.toNat = false →
      WordRuns (accessWord .ssys .read off) n v (.ssysRUndef off) s { s with faulted := some .ssysBadOffset } ∧
      WordRuns (accessWord .ssys .write off) n v (.ssysWUndef off v) s { s with faulted := some .ssysBadOffset }) ∧
    (i2cOffsets.contains off.toNat = false →
      WordRuns (accessWord .i2c .read off) n v (.i2cRUndef off) s { s with faulted := some .i2cBadOffset } ∧
      WordRuns (accessWord .i2c .write off) n v (.i2cWUndef off v) s { s with faulted := some .i2cBadOffset }) ∧
    (adcOffsets.contains off.toNat = false →
      WordRuns (accessWord .adc .read off) n v (.adcRUndef off) s { s with faulted := some .adcBadOffset } ∧
      WordRuns (accessWord .adc .write off) n v (.adcWUndef off v) s { s with faulted := some .adcBadOffset })

/-! ## GPTM -/

/-- 40_gptm.md R110 to R117. -/
def Obligations.GptmConfigurationAndStatusReads : Prop :=
  ∀ (s : State) (n : Nat) (v : Word) (g : Gptm), s.gptm[n]? = some g →
    WordRuns 0x0000#16 n v (.gptmRCfg n) s { s with readData := g.config } ∧
    WordRuns 0x0004#16 n v (.gptmRTamr n) s { s with readData := g.mode.a } ∧
    WordRuns 0x0008#16 n v (.gptmRTbmr n) s { s with readData := g.mode.b } ∧
    WordRuns 0x000C#16 n v (.gptmRCtl n) s { s with readData := g.control } ∧
    WordRuns 0x0018#16 n v (.gptmRImr n) s { s with readData := g.interruptMask } ∧
    WordRuns 0x001C#16 n v (.gptmRRis n) s { s with readData := g.rawStatus } ∧
    WordRuns 0x0020#16 n v (.gptmRMis n) s { s with readData := g.rawStatus &&& g.interruptMask } ∧
    WordRuns 0x0024#16 n v (.gptmRIcr n) s { s with readData := 0#32 }

/-- 40_gptm.md R118 to R125, with `comb(x)` as in R101. -/
def Obligations.GptmLoadMatchAndPrescaleReads : Prop :=
  ∀ (s : State) (n : Nat) (v : Word) (g : Gptm), s.gptm[n]? = some g →
    WordRuns 0x0028#16 n v (.gptmRTailr n) s
      { s with readData := if g.config < 4#32 then g.load.b ++ g.load.a else g.load.a.setWidth 32 } ∧
    WordRuns 0x002C#16 n v (.gptmRTbilr n) s { s with readData := g.load.b.setWidth 32 } ∧
    WordRuns 0x0030#16 n v (.gptmRTamatchr n) s
      { s with readData := if g.config < 4#32 then g.matchReg.b ++ g.matchReg.a else g.matchReg.a.setWidth 32 } ∧
    WordRuns 0x0034#16 n v (.gptmRTbmatchr n) s { s with readData := g.matchReg.b.setWidth 32 } ∧
    WordRuns 0x0038#16 n v (.gptmRTapr n) s { s with readData := g.prescale.a } ∧
    WordRuns 0x003C#16 n v (.gptmRTbpr n) s { s with readData := g.prescale.b } ∧
    WordRuns 0x0040#16 n v (.gptmRTapmr n) s { s with readData := g.matchPrescale.a } ∧
    WordRuns 0x0044#16 n v (.gptmRTbpmr n) s { s with readData := g.matchPrescale.b }

/-- 40_gptm.md R126, R127, R144 to R147: TAR reads the RTC counter under `config == 1` and faults otherwise (under
`Q_TAR_CONTROL_TEST`, 93_implementation_defined.md section 3, `control == 1` is tested instead); TBR always
faults; and a write to RIS, MIS, TAR or TBR faults. -/
def Obligations.GptmTimerValueReadsAndReadOnlyWrites : Prop :=
  ∀ (s : State) (n : Nat) (v : Word) (g : Gptm), s.gptm[n]? = some g →
    ((s.params.quirks.tarControlTest = false ∧ g.config = 1#32 ∨ s.params.quirks.tarControlTest = true ∧ g.control = 1#32) →
      WordRuns 0x0048#16 n v (.gptmRTar n) s { s with readData := g.rtcCounter }) ∧
    ((s.params.quirks.tarControlTest = false ∧ g.config ≠ 1#32 ∨ s.params.quirks.tarControlTest = true ∧ g.control ≠ 1#32) →
      WordRuns 0x0048#16 n v (.gptmRTar n) s { s with faulted := some .gptmTimerValue }) ∧
    WordRuns 0x004C#16 n v (.gptmRTbr n) s { s with faulted := some .gptmTimerValue } ∧
    WordRuns 0x101C#16 n v (.gptmWRis n v) s { s with faulted := some .gptmBadOffset } ∧
    WordRuns 0x1020#16 n v (.gptmWMis n v) s { s with faulted := some .gptmBadOffset } ∧
    WordRuns 0x1048#16 n v (.gptmWTar n v) s { s with faulted := some .gptmBadOffset } ∧
    WordRuns 0x104C#16 n v (.gptmWTbr n v) s { s with faulted := some .gptmBadOffset }

/-- 40_gptm.md R130, R131, R132, R134, R135. -/
def Obligations.GptmConfigurationAndStatusWrites : Prop :=
  ∀ (s : State) (n : Nat) (v : Word) (g : Gptm), s.gptm[n]? = some g →
    WordRuns 0x1000#16 n v (.gptmWCfg n v) s { s with gptm := s.gptm.set n { g with config := v } } ∧
    WordRuns 0x1004#16 n v (.gptmWTamr n v) s { s with gptm := s.gptm.set n { g with mode := ⟨v, g.mode.b⟩ } } ∧
    WordRuns 0x1008#16 n v (.gptmWTbmr n v) s { s with gptm := s.gptm.set n { g with mode := ⟨g.mode.a, v⟩ } } ∧
    WordRuns 0x1018#16 n v (.gptmWImr n v) s
      { s with gptm := s.gptm.set n { g with interruptMask := v &&& s.params.gptmImrWmask } } ∧
    WordRuns 0x1024#16 n v (.gptmWIcr n v) s
      { s with gptm := s.gptm.set n { g with rawStatus := g.rawStatus &&& ~~~v } }

/-- 40_gptm.md R136 to R143, with the two quirk flags of R139 and R143. -/
def Obligations.GptmLoadMatchAndPrescaleWrites : Prop :=
  ∀ (s : State) (n : Nat) (v : Word) (g : Gptm), s.gptm[n]? = some g →
    WordRuns 0x1028#16 n v (.gptmWTailr n v) s
      { s with
        gptm :=
          s.gptm.set n
            { g with
              load := ⟨v.extractLsb' 0 16, if g.config < 4#32 then v.extractLsb' 16 16 else g.load.b⟩ } } ∧
    WordRuns 0x102C#16 n v (.gptmWTbilr n v) s
      { s with gptm := s.gptm.set n { g with load := ⟨g.load.a, v.extractLsb' 0 16⟩ } } ∧
    WordRuns 0x1030#16 n v (.gptmWTamatchr n v) s
      { s with
        gptm :=
          s.gptm.set n
            { g with
              matchReg := ⟨v.extractLsb' 0 16, if g.config < 4#32 then v.extractLsb' 16 16 else g.matchReg.b⟩ } } ∧
    WordRuns 0x1034#16 n v (.gptmWTbmatchr n v) s
      { s with
        gptm :=
          s.gptm.set n
            { g with
              matchReg :=
                ⟨g.matchReg.a, if s.params.quirks.tbmatchrHigh then v.extractLsb' 16 16 else v.extractLsb' 0 16⟩ } } ∧
    WordRuns 0x1038#16 n v (.gptmWTapr n v) s { s with gptm := s.gptm.set n { g with prescale := ⟨v, g.prescale.b⟩ } } ∧
    WordRuns 0x103C#16 n v (.gptmWTbpr n v) s { s with gptm := s.gptm.set n { g with prescale := ⟨g.prescale.a, v⟩ } } ∧
    WordRuns 0x1040#16 n v (.gptmWTapmr n v) s
      { s with gptm := s.gptm.set n { g with matchPrescale := ⟨v, g.matchPrescale.b⟩ } } ∧
    WordRuns 0x1044#16 n v (.gptmWTbpmr n v) s
      { s with
        gptm :=
          s.gptm.set n
            { g with
              matchPrescale :=
                if s.params.quirks.tbpmrToA then ⟨v, g.matchPrescale.b⟩ else ⟨g.matchPrescale.a, v⟩ } }

/-- 40_gptm.md R133, with the reload of R103 that an enable runs (quirk `Q_PWM_IMMEDIATE_FIRE` off). CTL is stored. While
`config` is 0 or 1 TBEN does nothing: no change of TAEN only stores; 0 to 1 arms channel A from `now` by the combined load
times the scale, or by one second; 1 to 0 disarms it. Otherwise enabling a channel whose mode is not PWM faults with CTL
already written, channel A before channel B; a PWM channel arms nothing; disabling disarms; TBEN acts only while
`config >= 4`. -/
def Obligations.ControlWrite : Prop :=
  ∀ (s : State) (n : Nat) (v : Word) (g : Gptm), s.gptm[n]? = some g → s.params.quirks.pwmImmediateFire = false →
    let rises (k : Nat) : Bool := !g.control.getLsbD k && v.getLsbD k
    let falls (k : Nat) : Bool := g.control.getLsbD k && !v.getLsbD k
    let afterA : Gptm :=
      { g with control := v, armed := ⟨if falls 0 then false else g.armed.a, g.armed.b⟩ }
    let afterB : Gptm :=
      { afterA with armed := ⟨afterA.armed.a, if falls 8 then false else g.armed.b⟩ }
    (g.config = 0#32 ∨ g.config = 1#32 →
      (rises 0 = false →
        WordRuns 0x100C#16 n v (.gptmWCtl n v) s { s with gptm := s.gptm.set n afterA }) ∧
      (rises 0 = true →
        WordRuns 0x100C#16 n v (.gptmWCtl n v) s
          { s with
            gptm :=
              s.gptm.set n
                { g with
                  control := v
                  armed := ⟨true, g.armed.b⟩
                  nextDeadline :=
                    ⟨s.now +
                        (if g.config = 0#32 then (g.load.a.toNat + g.load.b.toNat * 2 ^ 16) * s.ssys.systemClockScale
                          else s.params.ticksPerSecond),
                      g.nextDeadline.b⟩ } })) ∧
    (2#32 ≤ g.config →
      (rises 0 = true → g.mode.a ≠ s.params.pwmSentinel →
        WordRuns 0x100C#16 n v (.gptmWCtl n v) s
          { s with gptm := s.gptm.set n { g with control := v }, faulted := some .gptmMode }) ∧
      ((rises 0 = true → g.mode.a = s.params.pwmSentinel) → g.config < 4#32 →
        WordRuns 0x100C#16 n v (.gptmWCtl n v) s { s with gptm := s.gptm.set n afterA }) ∧
      ((rises 0 = true → g.mode.a = s.params.pwmSentinel) → 4#32 ≤ g.config → rises 8 = true → g.mode.b ≠ s.params.pwmSentinel →
        WordRuns 0x100C#16 n v (.gptmWCtl n v) s
          { s with gptm := s.gptm.set n afterA, faulted := some .gptmMode }) ∧
      ((rises 0 = true → g.mode.a = s.params.pwmSentinel) → 4#32 ≤ g.config → (rises 8 = true → g.mode.b = s.params.pwmSentinel) →
        WordRuns 0x100C#16 n v (.gptmWCtl n v) s { s with gptm := s.gptm.set n afterB }))

/-- The CTL write of 40_gptm.md R133 under `Q_PWM_IMMEDIATE_FIRE` (93_implementation_defined.md section 3, decision D29),
every case: enabling a PWM channel arms it at `now`; all else is as without the flag, in both bits and for every `config`. -/
def Obligations.PwmQuirkArmsAtNow : Prop :=
  ∀ (s : State) (n : Nat) (v : Word) (g : Gptm), s.gptm[n]? = some g → s.params.quirks.pwmImmediateFire = true →
    let rises (k : Nat) : Bool := !g.control.getLsbD k && v.getLsbD k
    let falls (k : Nat) : Bool := g.control.getLsbD k && !v.getLsbD k
    let wait : Nat :=
      if g.config = 0#32 then (g.load.a.toNat + g.load.b.toNat * 2 ^ 16) * s.ssys.systemClockScale
      else if g.config = 1#32 then s.params.ticksPerSecond
      else 0
    let afterA : Gptm :=
      { g with
        control := v
        armed := ⟨if rises 0 then true else if falls 0 then false else g.armed.a, g.armed.b⟩
        nextDeadline := ⟨if rises 0 then s.now + wait else g.nextDeadline.a, g.nextDeadline.b⟩ }
    let afterB : Gptm :=
      { afterA with
        armed := ⟨afterA.armed.a, if rises 8 then true else if falls 8 then false else g.armed.b⟩
        nextDeadline := ⟨afterA.nextDeadline.a, if rises 8 then s.now else g.nextDeadline.b⟩ }
    (g.config = 0#32 ∨ g.config = 1#32 →
      WordRuns 0x100C#16 n v (.gptmWCtl n v) s { s with gptm := s.gptm.set n afterA }) ∧
    (2#32 ≤ g.config → rises 0 = true → g.mode.a ≠ s.params.pwmSentinel →
      WordRuns 0x100C#16 n v (.gptmWCtl n v) s
        { s with gptm := s.gptm.set n { g with control := v }, faulted := some .gptmMode }) ∧
    (2#32 ≤ g.config → (rises 0 = true → g.mode.a = s.params.pwmSentinel) →
      (g.config < 4#32 → WordRuns 0x100C#16 n v (.gptmWCtl n v) s { s with gptm := s.gptm.set n afterA }) ∧
      (4#32 ≤ g.config → rises 8 = true → g.mode.b ≠ s.params.pwmSentinel →
        WordRuns 0x100C#16 n v (.gptmWCtl n v) s
          { s with gptm := s.gptm.set n afterA, faulted := some .gptmMode }) ∧
      (4#32 ≤ g.config → (rises 8 = true → g.mode.b = s.params.pwmSentinel) →
        WordRuns 0x100C#16 n v (.gptmWCtl n v) s { s with gptm := s.gptm.set n afterB }))

/-- 40_gptm.md R150, R152, 20_memory.md R83, R88: a countdown fire sets the timeout bit; with TAOTE the ADC runs
`ADC_TRIGGERS_PER_PULSE` triggers in the same step, where the instance is wired to it; a one-shot timer is disabled and
left disarmed; a periodic one is armed again one period after its old deadline. -/
def Obligations.CountdownFire : Prop :=
  ∀ (s : State) (n : Nat) (k : Word) (g : Gptm), s.gptm[n]? = some g → g.armed.a = true → g.nextDeadline.a ≤ s.now →
    g.config = 0#32 →
    let adc : Adc :=
      if g.control.getLsbD 5 && s.params.adcTriggerSources.has n then
        Nat.repeat (fun a => a.trigger s.params) s.params.adcTriggersPerPulse s.adc
      else s.adc
    (g.mode.a.getLsbD 0 = true →
      WordRuns 0x8000#16 n k (.gptmEvFireA n) s
        { s with
          adc := adc
          gptm :=
            s.gptm.set n
              { g with
                rawStatus := g.rawStatus ||| 0x1#32
                control := g.control &&& ~~~0x1#32
                armed := ⟨false, g.armed.b⟩ } }) ∧
    (g.mode.a.getLsbD 0 = false →
      WordRuns 0x8000#16 n k (.gptmEvFireA n) s
        { s with
          adc := adc
          gptm :=
            s.gptm.set n
              { g with
                rawStatus := g.rawStatus ||| 0x1#32
                nextDeadline :=
                  ⟨g.nextDeadline.a + (g.load.a.toNat + g.load.b.toNat * 2 ^ 16) * s.ssys.systemClockScale,
                    g.nextDeadline.b⟩ } })

/-- 40_gptm.md R150, R153: an RTC tick. The counter goes up modulo 2^32 and wraps past the combined match, which sets RIS
bit 3 (`Q_RTC_ZERO_STATUS` also sets it when the counter is 0 after the increment); the channel is armed one second after
its old deadline. -/
def Obligations.RtcFire : Prop :=
  ∀ (s : State) (n : Nat) (k : Word) (g : Gptm), s.gptm[n]? = some g → g.armed.a = true → g.nextDeadline.a ≤ s.now →
    g.config = 1#32 →
    let count : Word := g.rtcCounter + 1#32
    let passed : Bool := decide (count.toNat > g.matchReg.a.toNat + g.matchReg.b.toNat * 2 ^ 16)
    let zero : Bool := s.params.quirks.rtcZeroStatus && decide (count = 0#32)
    WordRuns 0x8000#16 n k (.gptmEvFireA n) s
      { s with
        gptm :=
          s.gptm.set n
            { g with
              rtcCounter := if passed then 0#32 else count
              rawStatus := if passed || zero then g.rawStatus ||| 0x8#32 else g.rawStatus
              nextDeadline := ⟨g.nextDeadline.a + s.params.ticksPerSecond, g.nextDeadline.b⟩ } }

/-- 40_gptm.md R151, R154, R155: a fire of channel A while `config` is neither 0 nor 1, and every fire of channel B. The
handle is consumed; PWM does nothing else, any other mode faults; channel B while `config < 4` faults for that first. -/
def Obligations.ModePathFires : Prop :=
  ∀ (s : State) (n : Nat) (k : Word) (g : Gptm), s.gptm[n]? = some g →
    let offA : State := { s with gptm := s.gptm.set n { g with armed := ⟨false, g.armed.b⟩ } }
    let offB : State := { s with gptm := s.gptm.set n { g with armed := ⟨g.armed.a, false⟩ } }
    (g.armed.a = true → g.nextDeadline.a ≤ s.now → 2#32 ≤ g.config →
      (g.mode.a = s.params.pwmSentinel → WordRuns 0x8000#16 n k (.gptmEvFireA n) s offA) ∧
      (g.mode.a ≠ s.params.pwmSentinel →
        WordRuns 0x8000#16 n k (.gptmEvFireA n) s { offA with faulted := some .gptmMode })) ∧
    (g.armed.b = true → g.nextDeadline.b ≤ s.now →
      (g.config < 4#32 →
        WordRuns 0x8001#16 n k (.gptmEvFireB n) s { offB with faulted := some .gptmReconfig }) ∧
      (4#32 ≤ g.config → g.mode.b = s.params.pwmSentinel → WordRuns 0x8001#16 n k (.gptmEvFireB n) s offB) ∧
      (4#32 ≤ g.config → g.mode.b ≠ s.params.pwmSentinel →
        WordRuns 0x8001#16 n k (.gptmEvFireB n) s { offB with faulted := some .gptmMode }))

/-- 20_memory.md R83: a fire is enabled exactly when the channel is armed with its deadline not after `now`; any other
delivery is no step of the machine. -/
def Obligations.FireEnabledExactlyWhenDue : Prop :=
  ∀ (s : State) (n : Nat) (g : Gptm), s.gptm[n]? = some g →
    ((∃ t, exec (.gptmEvFireA n) s = .next t) ↔ g.armed.a = true ∧ g.nextDeadline.a ≤ s.now) ∧
    ((∃ t, exec (.gptmEvFireB n) s = .next t) ↔ g.armed.b = true ∧ g.nextDeadline.b ≤ s.now) ∧
    (¬ (g.armed.a = true ∧ g.nextDeadline.a ≤ s.now) → exec (.gptmEvFireA n) s = .refused .fireNotEnabled) ∧
    (¬ (g.armed.b = true ∧ g.nextDeadline.b ≤ s.now) → exec (.gptmEvFireB n) s = .refused .fireNotEnabled)

/-- The periodic phase (the spec's derived law in 40_gptm.md section 5): with constant load and scale, after any run of fires
of a periodic countdown and advances of time, so whatever the latency of each fire, the deadline is the first one plus as
many periods as there were fires; and `k` fires in a row all complete once `now` has reached the deadline of the last. -/
def Obligations.PeriodicCountdownKeepsPhase : Prop :=
  ∀ (s : State) (n : Nat) (g : Gptm), s.faulted = none → s.gptm[n]? = some g → g.config = 0#32 →
    g.mode.a.getLsbD 0 = false → g.armed.a = true →
    let period := (g.load.a.toNat + g.load.b.toNat * 2 ^ 16) * s.ssys.systemClockScale
    (∀ (xs : List Stimulus) (t : State), (∀ x ∈ xs, isFireA n x = true ∨ isAdvance x = true) →
      performAll xs s = .next t →
      let k := xs.countP (isFireA n)
      t.gptm[n]? =
        some
          { g with
            rawStatus := if k = 0 then g.rawStatus else g.rawStatus ||| 0x1#32
            nextDeadline := ⟨g.nextDeadline.a + k * period, g.nextDeadline.b⟩ } ∧
      t.faulted = none) ∧
    (∀ (k : Nat) (w : Word), (k ≠ 0 → g.nextDeadline.a + (k - 1) * period ≤ s.now) →
      ∃ t, performAll (List.replicate k (fireStimulus n .a w)) s = .next t)

/-- The RTC period (the spec's derived law in 40_gptm.md section 5): from counter 0 under a constant match `M < 2^32 − 1`,
after any run of RTC fires and advances of time with `k` fires in it, the deadline has moved by `k` seconds, the counter is
`k mod (M+1)` and RIS bit 3 has been set once `k` reached `M+1`; and `k` fires in a row all complete once `now` has reached
the deadline of the last. -/
def Obligations.RtcCounterAfterManyTicks : Prop :=
  ∀ (s : State) (n : Nat) (g : Gptm), s.faulted = none → s.gptm[n]? = some g → g.config = 1#32 →
    g.armed.a = true → g.rtcCounter = 0#32 → s.params.quirks.rtcZeroStatus = false →
    let m := g.matchReg.a.toNat + g.matchReg.b.toNat * 2 ^ 16
    m < 2 ^ 32 - 1 →
    (∀ (xs : List Stimulus) (t : State), (∀ x ∈ xs, isFireA n x = true ∨ isAdvance x = true) →
      performAll xs s = .next t →
      let k := xs.countP (isFireA n)
      t.gptm[n]? =
        some
          { g with
            rtcCounter := BitVec.ofNat 32 (k % (m + 1))
            rawStatus := if k < m + 1 then g.rawStatus else g.rawStatus ||| 0x8#32
            nextDeadline := ⟨g.nextDeadline.a + k * s.params.ticksPerSecond, g.nextDeadline.b⟩ } ∧
      t.faulted = none) ∧
    (∀ (k : Nat) (w : Word), (k ≠ 0 → g.nextDeadline.a + (k - 1) * s.params.ticksPerSecond ≤ s.now) →
      ∃ t, performAll (List.replicate k (fireStimulus n .a w)) s = .next t)

/-- Prescaling has no effect (the spec's derived law in 40_gptm.md section 5): other prescale and match-prescale values give
the same CTL writes and fires, but for those values. -/
def Obligations.PrescaleHasNoEffect : Prop :=
  ∀ (s t : State) (n : Nat) (v : Word) (g h : Gptm) (p q : Pair Word) (i : Instr),
    i = .gptmWCtl n v ∨ i = .gptmEvFireA n ∨ i = .gptmEvFireB n →
    s.gptm[n]? = some g → exec i s = .next t → t.gptm[n]? = some h →
    exec i { s with gptm := s.gptm.set n { g with prescale := p, matchPrescale := q } } =
      .next { t with gptm := t.gptm.set n { h with prescale := p, matchPrescale := q } }

/-- Deferred configuration (the spec's derived law in 40_gptm.md section 5): no write but the one to CTL, and no register
read, changes a deadline or arms or disarms a channel, on any instance. -/
def Obligations.OnlyCtlAccessesTouchDeadlines : Prop :=
  ∀ (s t : State) (d : Dir) (b : Block) (n off size m : Nat) (v : Word),
    perform (.access d b n off size v) s = .next t → (b = .gptm → d = .write → off ≠ 0x00C) →
    (t.gptm[m]?).map (fun g => (g.armed, g.nextDeadline)) = (s.gptm[m]?).map (fun g => (g.armed, g.nextDeadline))

/-! ## SSYS -/

/-- 41_ssys.md R180, R181: the clock scale from the stored registers, written out on the registers' values; Recompute
changes nothing else. -/
def Obligations.ClockScaleFormula : Prop :=
  ∀ (p : Params) (y : Ssys),
    y.recompute p =
      { y with
        systemClockScale :=
          p.scaleMult *
            ((if 2 ^ 31 ≤ y.rcc2.toNat then y.rcc2.toNat / 2 ^ 23 % 64 else y.rccControl.toNat / 2 ^ 23 % 16) + 1) }

/-- The range of the scale (the spec's derived law in 41_ssys.md section 4): a multiple of `SCALE_MULT` = 5, from 5 to 80
while RCC2 bit 31 is clear, from 5 to 320 while it is set. -/
def Obligations.ClockScaleRange : Prop :=
  ∀ (p : Params) (r c : Word),
    p.scaleMult ∣ clockScale p r c ∧ p.scaleMult ≤ clockScale p r c ∧
    (c.getLsbD 31 = false → clockScale p r c ≤ p.scaleMult * 16) ∧
    (c.getLsbD 31 = true → clockScale p r c ≤ p.scaleMult * 64)

/-- 41_ssys.md R182: the two-level board class lookup, on the value of `did0`. -/
def Obligations.BoardClassLookup : Prop :=
  ∀ d : Word,
    let ver := d.toNat / 2 ^ 28 % 8
    let cls := d.toNat / 2 ^ 16 % 256
    (ver = 0 → boardClass d = some .sandstorm) ∧
    (ver = 1 → cls = 0 → boardClass d = some .sandstorm) ∧
    (ver = 1 → cls = 1 → boardClass d = some .fury) ∧
    (ver = 1 → 2 ≤ cls → boardClass d = none) ∧
    (2 ≤ ver → boardClass d = none)

/-- 41_ssys.md R185 to R194. -/
def Obligations.SsysRegisterReads : Prop :=
  ∀ (s : State) (n : Nat) (v : Word),
    WordRuns 0x2000#16 n v .ssysRDid0 s { s with readData := s.ssys.board.did0 } ∧
    WordRuns 0x2004#16 n v .ssysRDid1 s { s with readData := s.ssys.board.did1 } ∧
    WordRuns 0x2008#16 n v .ssysRDc0 s { s with readData := s.ssys.board.dc0 } ∧
    WordRuns 0x2010#16 n v .ssysRDc1 s { s with readData := s.ssys.board.dc1 } ∧
    WordRuns 0x2014#16 n v .ssysRDc2 s { s with readData := s.ssys.board.dc2 } ∧
    WordRuns 0x2018#16 n v .ssysRDc3 s { s with readData := s.ssys.board.dc3 } ∧
    WordRuns 0x201C#16 n v .ssysRDc4 s { s with readData := s.ssys.board.dc4 } ∧
    WordRuns 0x2060#16 n v .ssysRRcc s { s with readData := s.ssys.rccControl } ∧
    WordRuns 0x2068#16 n v .ssysRClkcfg s { s with readData := s.ssys.rccConfig } ∧
    WordRuns 0x2070#16 n v .ssysRRcc2 s { s with readData := s.ssys.rcc2 }

/-- 41_ssys.md R195: the 22 catch-all reads. -/
def Obligations.SsysCatchallReads : Prop :=
  ∀ (s : State) (n : Nat) (v : Word),
    WordRuns 0x2030#16 n v .ssysRCatchallPborctl s { s with readData := s.ssys.words.pborctl } ∧
    WordRuns 0x2034#16 n v .ssysRCatchallLdopctl s { s with readData := s.ssys.words.ldopctl } ∧
    WordRuns 0x2040#16 n v .ssysRCatchallSrcr0 s { s with readData := s.ssys.words.srcr0 } ∧
    WordRuns 0x2044#16 n v .ssysRCatchallSrcr1 s { s with readData := s.ssys.words.srcr1 } ∧
    WordRuns 0x2048#16 n v .ssysRCatchallSrcr2 s { s with readData := s.ssys.words.srcr2 } ∧
    WordRuns 0x2050#16 n v .ssysRCatchallRis s { s with readData := s.ssys.words.ris } ∧
    WordRuns 0x2054#16 n v .ssysRCatchallImc s { s with readData := s.ssys.words.imc } ∧
    WordRuns 0x2058#16 n v .ssysRCatchallMisc s { s with readData := s.ssys.words.misc } ∧
    WordRuns 0x205C#16 n v .ssysRCatchallResc s { s with readData := s.ssys.words.resc } ∧
    WordRuns 0x2100#16 n v .ssysRCatchallRcgc0 s { s with readData := s.ssys.words.rcgc0 } ∧
    WordRuns 0x2104#16 n v .ssysRCatchallRcgc1 s { s with readData := s.ssys.words.rcgc1 } ∧
    WordRuns 0x2108#16 n v .ssysRCatchallRcgc2 s { s with readData := s.ssys.words.rcgc2 } ∧
    WordRuns 0x2110#16 n v .ssysRCatchallScgc0 s { s with readData := s.ssys.words.scgc0 } ∧
    WordRuns 0x2114#16 n v .ssysRCatchallScgc1 s { s with readData := s.ssys.words.scgc1 } ∧
    WordRuns 0x2118#16 n v .ssysRCatchallScgc2 s { s with readData := s.ssys.words.scgc2 } ∧
    WordRuns 0x2120#16 n v .ssysRCatchallDcgc0 s { s with readData := s.ssys.words.dcgc0 } ∧
    WordRuns 0x2124#16 n v .ssysRCatchallDcgc1 s { s with readData := s.ssys.words.dcgc1 } ∧
    WordRuns 0x2128#16 n v .ssysRCatchallDcgc2 s { s with readData := s.ssys.words.dcgc2 } ∧
    WordRuns 0x2150#16 n v .ssysRCatchallClkvclr s { s with readData := s.ssys.words.clkvclr } ∧
    WordRuns 0x2160#16 n v .ssysRCatchallLdoarst s { s with readData := s.ssys.words.ldoarst } ∧
    WordRuns 0x21E0#16 n v .ssysRCatchallUser0 s { s with readData := s.ssys.words.user0 } ∧
    WordRuns 0x21E4#16 n v .ssysRCatchallUser1 s { s with readData := s.ssys.words.user1 }

/-- 41_ssys.md R205: the 22 catch-all writes store verbatim and recompute the scale. -/
def Obligations.SsysCatchallWrites : Prop :=
  ∀ (s : State) (n : Nat) (v : Word),
    let w := s.ssys.words
    let stored (x : CatchallWords) : State :=
      { s with ssys := { s.ssys with words := x, systemClockScale := clockScale s.params s.ssys.rccControl s.ssys.rcc2 } }
    WordRuns 0x3030#16 n v (.ssysWCatchallPborctl v) s (stored { w with pborctl := v }) ∧
    WordRuns 0x3034#16 n v (.ssysWCatchallLdopctl v) s (stored { w with ldopctl := v }) ∧
    WordRuns 0x3040#16 n v (.ssysWCatchallSrcr0 v) s (stored { w with srcr0 := v }) ∧
    WordRuns 0x3044#16 n v (.ssysWCatchallSrcr1 v) s (stored { w with srcr1 := v }) ∧
    WordRuns 0x3048#16 n v (.ssysWCatchallSrcr2 v) s (stored { w with srcr2 := v }) ∧
    WordRuns 0x3050#16 n v (.ssysWCatchallRis v) s (stored { w with ris := v }) ∧
    WordRuns 0x3054#16 n v (.ssysWCatchallImc v) s (stored { w with imc := v }) ∧
    WordRuns 0x3058#16 n v (.ssysWCatchallMisc v) s (stored { w with misc := v }) ∧
    WordRuns 0x305C#16 n v (.ssysWCatchallResc v) s (stored { w with resc := v }) ∧
    WordRuns 0x3100#16 n v (.ssysWCatchallRcgc0 v) s (stored { w with rcgc0 := v }) ∧
    WordRuns 0x3104#16 n v (.ssysWCatchallRcgc1 v) s (stored { w with rcgc1 := v }) ∧
    WordRuns 0x3108#16 n v (.ssysWCatchallRcgc2 v) s (stored { w with rcgc2 := v }) ∧
    WordRuns 0x3110#16 n v (.ssysWCatchallScgc0 v) s (stored { w with scgc0 := v }) ∧
    WordRuns 0x3114#16 n v (.ssysWCatchallScgc1 v) s (stored { w with scgc1 := v }) ∧
    WordRuns 0x3118#16 n v (.ssysWCatchallScgc2 v) s (stored { w with scgc2 := v }) ∧
    WordRuns 0x3120#16 n v (.ssysWCatchallDcgc0 v) s (stored { w with dcgc0 := v }) ∧
    WordRuns 0x3124#16 n v (.ssysWCatchallDcgc1 v) s (stored { w with dcgc1 := v }) ∧
    WordRuns 0x3128#16 n v (.ssysWCatchallDcgc2 v) s (stored { w with dcgc2 := v }) ∧
    WordRuns 0x3150#16 n v (.ssysWCatchallClkvclr v) s (stored { w with clkvclr := v }) ∧
    WordRuns 0x3160#16 n v (.ssysWCatchallLdoarst v) s (stored { w with ldoarst := v }) ∧
    WordRuns 0x31E0#16 n v (.ssysWCatchallUser0 v) s (stored { w with user0 := v }) ∧
    WordRuns 0x31E4#16 n v (.ssysWCatchallUser1 v) s (stored { w with user1 := v })

/-- 41_ssys.md R207 to R213: writes to the identity words fault. -/
def Obligations.SsysReadOnlyWritesFault : Prop :=
  ∀ (s : State) (n : Nat) (v : Word),
    WordRuns 0x3000#16 n v (.ssysWDid0 v) s { s with faulted := some .ssysBadOffset } ∧
    WordRuns 0x3004#16 n v (.ssysWDid1 v) s { s with faulted := some .ssysBadOffset } ∧
    WordRuns 0x3008#16 n v (.ssysWDc0 v) s { s with faulted := some .ssysBadOffset } ∧
    WordRuns 0x3010#16 n v (.ssysWDc1 v) s { s with faulted := some .ssysBadOffset } ∧
    WordRuns 0x3014#16 n v (.ssysWDc2 v) s { s with faulted := some .ssysBadOffset } ∧
    WordRuns 0x3018#16 n v (.ssysWDc3 v) s { s with faulted := some .ssysBadOffset } ∧
    WordRuns 0x301C#16 n v (.ssysWDc4 v) s { s with faulted := some .ssysBadOffset }

/-- 41_ssys.md R202, R203: RCC stores `v`, and a 1-to-0 change of PWRDN marks the PLL as locked; CLKCFG captures SEL_REQ
into SEL_CUR. Both recompute the scale. -/
def Obligations.RccAndClkcfgWrites : Prop :=
  ∀ (s : State) (n : Nat) (v : Word),
    WordRuns 0x3060#16 n v (.ssysWRcc v) s
      { s with
        ssys :=
          { s.ssys with
            rccControl := v
            words :=
              { s.ssys.words with
                ris :=
                  if s.ssys.rccControl.getLsbD 13 && !v.getLsbD 13 then s.ssys.words.ris ||| 0x40#32
                  else s.ssys.words.ris }
            systemClockScale := clockScale s.params v s.ssys.rcc2 } } ∧
    WordRuns 0x3068#16 n v (.ssysWClkcfg v) s
      { s with
        ssys :=
          { s.ssys with
            rccConfig := v.extractLsb' 4 28 ++ v.extractLsb' 0 2 ++ v.extractLsb' 0 2
            systemClockScale := clockScale s.params s.ssys.rccControl s.ssys.rcc2 } }

/-- 41_ssys.md R204: RCC2 is stored and the scale recomputed, unless the board ignores the write on a Sandstorm class. The
outcome for an unrecognised class, which no run reaches, is the model's choice (log 15). -/
def Obligations.RccTwoWrite : Prop :=
  ∀ (s : State) (n : Nat) (v : Word),
    ((s.params.rcc2IgnoredOnSandstorm = false ∨ boardClass s.ssys.board.did0 = some .fury) →
      WordRuns 0x3070#16 n v (.ssysWRcc2 v) s
        { s with ssys := { s.ssys with rcc2 := v, systemClockScale := clockScale s.params s.ssys.rccControl v } }) ∧
    (s.params.rcc2IgnoredOnSandstorm = true → boardClass s.ssys.board.did0 = some .sandstorm →
      WordRuns 0x3070#16 n v (.ssysWRcc2 v) s
        { s with ssys := { s.ssys with systemClockScale := clockScale s.params s.ssys.rccControl s.ssys.rcc2 } }) ∧
    (s.params.rcc2IgnoredOnSandstorm = true → boardClass s.ssys.board.did0 = none →
      WordRuns 0x3070#16 n v (.ssysWRcc2 v) s { s with faulted := some .ssysBoardClass })

/-! ## I2C -/

/-- 42_i2c.md R225 to R231, R233. -/
def Obligations.I2cRegisterReads : Prop :=
  ∀ (s : State) (n : Nat) (v : Word),
    WordRuns 0x4000#16 n v .i2cRMsa s { s with readData := s.i2c.slaveAddress.setWidth 32 } ∧
    WordRuns 0x4004#16 n v .i2cRMcs s { s with readData := s.i2c.controlStatus ||| 0x20#32 } ∧
    WordRuns 0x4008#16 n v .i2cRMdr s { s with readData := s.i2c.dataRegister.setWidth 32 } ∧
    WordRuns 0x400C#16 n v .i2cRMtpr s { s with readData := s.i2c.timingRegister.setWidth 32 } ∧
    WordRuns 0x4010#16 n v .i2cRMimr s { s with readData := s.i2c.interruptMask } ∧
    WordRuns 0x4014#16 n v .i2cRMris s { s with readData := s.i2c.rawInterruptStatus } ∧
    WordRuns 0x4018#16 n v .i2cRMmis s { s with readData := s.i2c.rawInterruptStatus &&& s.i2c.interruptMask } ∧
    WordRuns 0x4020#16 n v .i2cRMcr s { s with readData := s.i2c.masterConfig }

/-- 42_i2c.md R240, R242, R243, R244, R247. -/
def Obligations.I2cRegisterWrites : Prop :=
  ∀ (s : State) (n : Nat) (v : Word),
    WordRuns 0x5000#16 n v (.i2cWMsa v) s { s with i2c := { s.i2c with slaveAddress := v.extractLsb' 0 8 } } ∧
    WordRuns 0x5008#16 n v (.i2cWMdr v) s { s with i2c := { s.i2c with dataRegister := v.extractLsb' 0 8 } } ∧
    WordRuns 0x500C#16 n v (.i2cWMtpr v) s { s with i2c := { s.i2c with timingRegister := v.extractLsb' 0 8 } } ∧
    WordRuns 0x5010#16 n v (.i2cWMimr v) s { s with i2c := { s.i2c with interruptMask := s.params.i2cMimrFixed } } ∧
    WordRuns 0x501C#16 n v (.i2cWMicr v) s
      { s with i2c := { s.i2c with rawInterruptStatus := s.i2c.rawInterruptStatus &&& ~~~v } }

/-- 42_i2c.md R232, R245, R246, R248: the accesses that always fault, and the MCR write: loopback faults first, then slave
mode, and otherwise only MFE can be stored. -/
def Obligations.I2cFaultingAccessesAndMcr : Prop :=
  ∀ (s : State) (n : Nat) (v : Word),
    WordRuns 0x401C#16 n v .i2cRMicr s { s with faulted := some .i2cBadOffset } ∧
    WordRuns 0x5014#16 n v (.i2cWMris v) s { s with faulted := some .i2cBadOffset } ∧
    WordRuns 0x5018#16 n v (.i2cWMmis v) s { s with faulted := some .i2cBadOffset } ∧
    (v.getLsbD 0 = true → WordRuns 0x5020#16 n v (.i2cWMcr v) s { s with faulted := some .i2cLoopback }) ∧
    (v.getLsbD 0 = false → v.getLsbD 5 = true →
      WordRuns 0x5020#16 n v (.i2cWMcr v) s { s with faulted := some .i2cSlaveMode }) ∧
    (v.getLsbD 0 = false → v.getLsbD 5 = false →
      WordRuns 0x5020#16 n v (.i2cWMcr v) s { s with i2c := { s.i2c with masterConfig := v &&& 0x10#32 } })

/-- 42_i2c.md R241, an MCS command. MFE clear is no operation. A START that fails to acquire sets ARBLST and ERROR; one that
acquires clears ARBLST, sets BUSBSY, takes the bus, and goes on as the same command does from there; no START, or a START
while BUSBSY is set, on a bus that is not held sets ERROR. On a bus that is held ERROR is cleared, RUN moves one byte in the
direction of MSA bit 0 and sets MRIS bit 0, and STOP releases the bus and clears BUSBSY. A draw is the fixed answer or a free
value, here any value. Model's own: the draw counter and the free draw (log 4), the consumption of a fixed answer (log 5),
the record of the calls (log 14), and an acquire by the bus's own holder (log 27). -/
def Obligations.McsCommand : Prop :=
  ∀ (s : State) (n : Nat) (v : Word),
    let cs := s.i2c.controlStatus
    let a := s.i2c.slaveAddress.extractLsb' 1 7
    let isRead := s.i2c.slaveAddress.getLsbD 0
    let run := v.getLsbD 0
    let stop := v.getLsbD 2
    (s.i2c.masterConfig.getLsbD 4 = false → WordRuns 0x5004#16 n v (.i2cWMcs v) s s) ∧
    (s.i2c.masterConfig.getLsbD 4 = true → v.getLsbD 1 = true → cs.getLsbD 6 = false → s.bus.holder = .other →
      WordRuns 0x5004#16 n v (.i2cWMcs v) s
        { s with
          i2c := { s.i2c with controlStatus := cs ||| 0x12#32 }
          bus := { s.bus with calls := s.bus.calls ++ [.acquire a isRead false] } }) ∧
    (s.i2c.masterConfig.getLsbD 4 = true → v.getLsbD 1 = true → cs.getLsbD 6 = false → s.bus.holder ≠ .other →
      s.bus.drawAcquire = false →
      WordRuns 0x5004#16 n v (.i2cWMcs v) s
        { s with
          i2c := { s.i2c with controlStatus := cs ||| 0x12#32 }
          bus :=
            { s.bus with
              nextAcquire := none, draws := s.bus.draws + 1, calls := s.bus.calls ++ [.acquire a isRead false] } }) ∧
    (s.i2c.masterConfig.getLsbD 4 = true → v.getLsbD 1 = true → cs.getLsbD 6 = false → s.bus.holder ≠ .other →
      s.bus.drawAcquire = true →
      exec (.i2cWMcs v) s =
        exec (.i2cWMcs v)
          { s with
            i2c := { s.i2c with controlStatus := (cs &&& ~~~0x10#32) ||| 0x40#32 }
            bus :=
              { s.bus with
                holder := .self
                nextAcquire := none
                draws := s.bus.draws + 1
                calls := s.bus.calls ++ [.acquire a isRead true] } }) ∧
    (s.i2c.masterConfig.getLsbD 4 = true → (v.getLsbD 1 = false ∨ cs.getLsbD 6 = true) →
      (s.bus.holder = .none ∨ cs.getLsbD 6 = false) →
      WordRuns 0x5004#16 n v (.i2cWMcs v) s
        { s with i2c := { s.i2c with controlStatus := cs ||| 0x2#32 } }) ∧
    (s.i2c.masterConfig.getLsbD 4 = true → cs.getLsbD 6 = true → s.bus.holder ≠ .none →
      WordRuns 0x5004#16 n v (.i2cWMcs v) s
        { s with
          i2c :=
            { s.i2c with
              controlStatus := cs &&& (if stop then ~~~0x42#32 else ~~~0x2#32)
              dataRegister := if run && isRead then s.bus.drawRecv else s.i2c.dataRegister
              rawInterruptStatus :=
                if run then s.i2c.rawInterruptStatus ||| 0x1#32 else s.i2c.rawInterruptStatus }
          bus :=
            { s.bus with
              holder := if stop && decide (s.bus.holder = .self) then .none else s.bus.holder
              nextRecv := if run && isRead then none else s.bus.nextRecv
              draws := if run && isRead then s.bus.draws + 1 else s.bus.draws
              calls :=
                s.bus.calls ++
                  (if run then
                    [if isRead then .recvByte s.bus.drawRecv else .sendByte s.i2c.dataRegister] else []) ++
                  (if stop then [.release] else []) } })

/-- The combined transfer (the spec's derived law in 42_i2c.md section 4): on an idle bus whose acquire succeeds, RUN, START
and STOP in one write perform exactly one acquire, one byte in the direction of MSA bit 0 and one release, and leave BUSBSY,
ERROR and ARBLST clear, MRIS bit 0 set and the bus free. A received byte is in MDR; it is the fixed answer, or free. Model's own: the
draw counter (log 4), the consumption of the fixed answers (log 5) and the record of the calls (log 14). -/
def Obligations.CombinedTransfer : Prop :=
  ∀ (s : State) (v : Word),
    s.i2c.masterConfig.getLsbD 4 = true → s.i2c.controlStatus.getLsbD 6 = false → s.bus.holder = .none →
    s.bus.drawAcquire = true → v.extractLsb' 0 3 = 7#3 →
    let address := s.i2c.slaveAddress.extractLsb' 1 7
    (s.i2c.slaveAddress.getLsbD 0 = false →
      exec (.i2cWMcs v) s =
        .next
          { s with
            i2c :=
              { s.i2c with
                controlStatus := s.i2c.controlStatus &&& ~~~0x52#32
                rawInterruptStatus := s.i2c.rawInterruptStatus ||| 0x1#32 }
            bus :=
              { s.bus with
                holder := .none
                nextAcquire := none
                draws := s.bus.draws + 1
                calls := s.bus.calls ++ [.acquire address false true, .sendByte s.i2c.dataRegister, .release] } }) ∧
    (s.i2c.slaveAddress.getLsbD 0 = true →
      ∃ x : Byte, (∀ y, s.bus.nextRecv = some y → x = y) ∧
        exec (.i2cWMcs v) s =
          .next
            { s with
              i2c :=
                { s.i2c with
                  controlStatus := s.i2c.controlStatus &&& ~~~0x52#32
                  dataRegister := x
                  rawInterruptStatus := s.i2c.rawInterruptStatus ||| 0x1#32 }
              bus :=
                { s.bus with
                  holder := .none
                  nextAcquire := none
                  nextRecv := none
                  draws := s.bus.draws + 2
                  calls := s.bus.calls ++ [.acquire address true true, .recvByte x, .release] } })

/-- Arbitration loss (the spec's derived law in 42_i2c.md section 4): while another master holds the bus and BUSBSY is 0, no
step but that master's own release, or a restore of the I2C block, sets BUSBSY or takes the bus, and no byte moves. -/
def Obligations.NoTransferWhileAnotherMasterHolds : Prop :=
  ∀ (s t : State) (x : Stimulus),
    s.bus.holder = .other → s.i2c.controlStatus.getLsbD 6 = false → x ≠ .busLetGo →
    (∀ n k, x ≠ .event 0x4FFE#15 n k) → StepBy x s t →
    t.bus.holder = .other ∧ t.i2c.controlStatus.getLsbD 6 = false ∧
    ∃ l, t.bus.calls = s.bus.calls ++ l ∧ ∀ c ∈ l, ∃ a r, c = .acquire a r false

/-! ## ADC -/

/-- 43_adc.md R270 to R277, R279, R280, R281, R283: every ADC read but those of SSFIFOn and PSSI. -/
def Obligations.AdcRegisterReads : Prop :=
  ∀ (s : State) (n : Nat) (v : Word),
    WordRuns 0x6000#16 n v .adcRActss s { s with readData := s.adc.activeSequencers.setWidth 32 } ∧
    WordRuns 0x6004#16 n v .adcRRis s { s with readData := s.adc.rawInterruptStatus } ∧
    WordRuns 0x6008#16 n v .adcRIm s { s with readData := s.adc.interruptMask } ∧
    WordRuns 0x600C#16 n v .adcRIsc s { s with readData := s.adc.rawInterruptStatus &&& s.adc.interruptMask } ∧
    WordRuns 0x6010#16 n v .adcROstat s { s with readData := s.adc.overflow } ∧
    WordRuns 0x6014#16 n v .adcREmux s { s with readData := s.adc.sampleSource } ∧
    WordRuns 0x6018#16 n v .adcRUstat s { s with readData := s.adc.underflow } ∧
    WordRuns 0x6020#16 n v .adcRSspri s { s with readData := s.adc.seqPriority } ∧
    WordRuns 0x6030#16 n v .adcRSac s { s with readData := s.adc.averaging } ∧
    WordRuns 0x6040#16 n v .adcRSsmux0 s { s with readData := s.adc.mux[0] } ∧
    WordRuns 0x6060#16 n v .adcRSsmux1 s { s with readData := s.adc.mux[1] } ∧
    WordRuns 0x6080#16 n v .adcRSsmux2 s { s with readData := s.adc.mux[2] } ∧
    WordRuns 0x60A0#16 n v .adcRSsmux3 s { s with readData := s.adc.mux[3] } ∧
    WordRuns 0x6044#16 n v .adcRSsctl0 s { s with readData := s.adc.ctl[0] } ∧
    WordRuns 0x6064#16 n v .adcRSsctl1 s { s with readData := s.adc.ctl[1] } ∧
    WordRuns 0x6084#16 n v .adcRSsctl2 s { s with readData := s.adc.ctl[2] } ∧
    WordRuns 0x60A4#16 n v .adcRSsctl3 s { s with readData := s.adc.ctl[3] } ∧
    WordRuns 0x604C#16 n v .adcRSsfstat0 s { s with readData := s.adc.fifo[0].state } ∧
    WordRuns 0x606C#16 n v .adcRSsfstat1 s { s with readData := s.adc.fifo[1].state } ∧
    WordRuns 0x608C#16 n v .adcRSsfstat2 s { s with readData := s.adc.fifo[2].state } ∧
    WordRuns 0x60AC#16 n v .adcRSsfstat3 s { s with readData := s.adc.fifo[3].state }

/-- 43_adc.md R261, R282: an SSFIFOn read returns the slot at the tail; an empty FIFO only sets its underflow bit, and any
other has its tail advanced modulo `FIFO_CAP` (R260), FULL cleared and EMPTY set when the tail catches the head
(`Q_ADC_FIFO_TAIL_UNMASKED`: compared without the modulus). The spec's capacity is 16; that it may be any other the 4-bit
indices hold is the model's choice (log 30). -/
def Obligations.FifoPop : Prop :=
  ∀ (s : State) (m : Nat) (v : Word), 1 ≤ s.params.fifoCap → s.params.fifoCap ≤ 16 →
    let after (n : Fin 4) : State :=
      let f := s.adc.fifo[n]
      let tail := f.state.extractLsb' 0 4
      let head := f.state.extractLsb' 4 4
      let next := (tail.toNat + 1) % s.params.fifoCap
      let caught : Bool :=
        if s.params.quirks.adcFifoTailUnmasked then decide (tail.toNat + 1 = head.toNat)
        else decide (next = head.toNat)
      { s with
        readData := f.data.toList.getD tail.toNat 0#32
        adc :=
          if f.state.getLsbD 8 then { s.adc with underflow := s.adc.underflow ||| (1#32 <<< n.val) }
          else
            { s.adc with
              fifo :=
                s.adc.fifo.set n
                  { f with
                    state :=
                      ((f.state &&& ~~~0x100F#32) ||| BitVec.ofNat 32 next) |||
                        (if caught then 0x100#32 else 0#32) } } }
    WordRuns 0x6048#16 m v .adcRSsfifo0 s (after 0) ∧ WordRuns 0x6068#16 m v .adcRSsfifo1 s (after 1) ∧
    WordRuns 0x6088#16 m v .adcRSsfifo2 s (after 2) ∧ WordRuns 0x60A8#16 m v .adcRSsfifo3 s (after 3)

/-- 43_adc.md R262: a full FIFO drops the sample and sets its overflow bit; any other stores it at the head, advances the
head modulo `FIFO_CAP` (R260), clears EMPTY and sets FULL when the head catches the tail. The spec's capacity is 16; that it
may be any other the 4-bit indices hold is the model's choice (log 30). -/
def Obligations.FifoPush : Prop :=
  ∀ (p : Params) (a : Adc) (n : Fin 4) (x : Word), 1 ≤ p.fifoCap → p.fifoCap ≤ 16 →
    let f := a.fifo[n]
    let tail := f.state.extractLsb' 0 4
    let head := f.state.extractLsb' 4 4
    let next := (head.toNat + 1) % p.fifoCap
    (f.state.getLsbD 12 = true → a.fifoWrite p n x = { a with overflow := a.overflow ||| (1#32 <<< n.val) }) ∧
    (f.state.getLsbD 12 = false →
      ∃ h : head.toNat < 16,
        a.fifoWrite p n x =
          { a with
            fifo :=
              a.fifo.set n
                { state :=
                    ((f.state &&& ~~~0x1F0#32) ||| BitVec.ofNat 32 (next * 16)) |||
                      (if next = tail.toNat then 0x1000#32 else 0#32)
                  data := f.data.set head.toNat x h } })

/-- 43_adc.md R263, R264, R305, 20_memory.md R82: the trigger. Sequencers 0 to 3 in ascending order: one that is active with
the timer selected advances the noise, writes the sample to its FIFO and sets its RIS bit, even where the sample is dropped;
any other does nothing. It is no step of its own on a board that wires no other source to the input (log 19). Model's own:
the EMUX bits above 31 (log 21) and values of `NUM_SEQ` other than 4 (log 30). -/
def Obligations.TriggerEvent : Prop :=
  ∀ (s : State) (m : Nat) (v : Word),
    let p := s.params
    let turn (n : Fin 4) (a : Adc) : Adc :=
      if n.val < p.numSeq ∧ a.activeSequencers.getLsbD n.val = true ∧
          a.sampleSource.toNat / 2 ^ (4 * n.val) % 2 ^ p.adcEmuxCmpWidth = p.adcEmuxTimer then
        let noise := a.noise * p.lcgMul + p.lcgInc
        let b := { a with noise := noise }.fifoWrite p n (0x200#32 + (noise.extractLsb' 16 3).setWidth 32)
        { b with rawInterruptStatus := b.rawInterruptStatus ||| (1#32 <<< n.val) }
      else a
    WordRuns 0xE000#16 m v .adcEvTrigger s { s with adc := turn 3 (turn 2 (turn 1 (turn 0 s.adc))) } ∧
    (p.adcTriggerWired = true → perform (.event 0x6000#15 m v) s = exec .adcEvTrigger s) ∧
    (p.adcTriggerWired = false → perform (.event 0x6000#15 m v) s = .refused .triggerNotAStep)

/-- Overflow (the spec's derived law in 43_adc.md section 5): as many writes as the capacity, 16, fill an empty FIFO, whatever
the samples, and the next one, the seventeenth, sets the overflow bit and changes nothing else. Capacities other than 16 are
the model's choice (log 30). -/
def Obligations.SeventeenthSampleIsDropped : Prop :=
  ∀ (p : Params) (a : Adc) (n : Fin 4) (xs : List Word) (y : Word), 1 ≤ p.fifoCap → p.fifoCap ≤ 16 →
    a.fifo[n].state = 0x100#32 → xs.length = p.fifoCap →
    let full := xs.foldl (fun b x => b.fifoWrite p n x) a
    full.fifo[n].state = 0x1000#32 ∧ full.fifo[n].data.toList.take p.fifoCap = xs ∧ full.overflow = a.overflow ∧
    full.fifoWrite p n y = { full with overflow := full.overflow ||| (1#32 <<< n.val) }

/-- Occupancy (the spec's derived law in 43_adc.md section 5), on every legal state word: a stored sample adds one and a read
of a FIFO that is not empty takes one away, both keep the word legal, and it never exceeds the capacity, 16. Capacities
other than 16 are the model's choice (log 30). -/
def Obligations.OccupancyCountsSamples : Prop :=
  ∀ (p : Params) (st : Word), 1 ≤ p.fifoCap → p.fifoCap ≤ 16 → p.quirks.adcFifoTailUnmasked = false → FifoLegal p st →
    occupancy p st ≤ p.fifoCap ∧
    (st.getLsbD 12 = false → occupancy p (pushWord p st) = occupancy p st + 1 ∧ FifoLegal p (pushWord p st)) ∧
    (st.getLsbD 8 = false → occupancy p (popWord p st) + 1 = occupancy p st ∧ FifoLegal p (popWord p st))

/-- 43_adc.md R290, R292 to R297, R299, R300, R301: every ADC write that does not always fault. SSMUXn stores
`v & 0x33333333`; SSCTLn accepts the supported value and faults on any other. -/
def Obligations.AdcRegisterWrites : Prop :=
  ∀ (s : State) (n : Nat) (v : Word),
    let mux (q : Fin 4) : State := { s with adc := { s.adc with mux := s.adc.mux.set q (v &&& 0x33333333#32) } }
    let ctl (q : Fin 4) : State :=
      if v = s.params.adcSsctlSupported then { s with adc := { s.adc with ctl := s.adc.ctl.set q v } }
      else { s with faulted := some .adcSequence }
    WordRuns 0x7000#16 n v (.adcWActss v) s { s with adc := { s.adc with activeSequencers := v.extractLsb' 0 4 } } ∧
    WordRuns 0x7008#16 n v (.adcWIm v) s { s with adc := { s.adc with interruptMask := v } } ∧
    WordRuns 0x700C#16 n v (.adcWIsc v) s
      { s with adc := { s.adc with rawInterruptStatus := s.adc.rawInterruptStatus &&& ~~~v } } ∧
    WordRuns 0x7010#16 n v (.adcWOstat v) s { s with adc := { s.adc with overflow := s.adc.overflow &&& ~~~v } } ∧
    WordRuns 0x7014#16 n v (.adcWEmux v) s { s with adc := { s.adc with sampleSource := v } } ∧
    WordRuns 0x7018#16 n v (.adcWUstat v) s { s with adc := { s.adc with underflow := s.adc.underflow &&& ~~~v } } ∧
    WordRuns 0x7020#16 n v (.adcWSspri v) s { s with adc := { s.adc with seqPriority := v } } ∧
    WordRuns 0x7030#16 n v (.adcWSac v) s { s with adc := { s.adc with averaging := v } } ∧
    WordRuns 0x7040#16 n v (.adcWSsmux0 v) s (mux 0) ∧ WordRuns 0x7060#16 n v (.adcWSsmux1 v) s (mux 1) ∧
    WordRuns 0x7080#16 n v (.adcWSsmux2 v) s (mux 2) ∧ WordRuns 0x70A0#16 n v (.adcWSsmux3 v) s (mux 3) ∧
    WordRuns 0x7044#16 n v (.adcWSsctl0 v) s (ctl 0) ∧ WordRuns 0x7064#16 n v (.adcWSsctl1 v) s (ctl 1) ∧
    WordRuns 0x7084#16 n v (.adcWSsctl2 v) s (ctl 2) ∧ WordRuns 0x70A4#16 n v (.adcWSsctl3 v) s (ctl 3)

/-- 43_adc.md R278, R291, R298, R302, R303: the accesses that always fault. -/
def Obligations.AdcFaultingAccesses : Prop :=
  ∀ (s : State) (n : Nat) (v : Word),
    let bad : State := { s with faulted := some .adcBadOffset }
    WordRuns 0x6028#16 n v .adcRPssi s bad ∧ WordRuns 0x7004#16 n v (.adcWRis v) s bad ∧
    WordRuns 0x7028#16 n v (.adcWPssi v) s { s with faulted := some .adcPssi } ∧
    WordRuns 0x7048#16 n v (.adcWSsfifo0 v) s bad ∧ WordRuns 0x7068#16 n v (.adcWSsfifo1 v) s bad ∧
    WordRuns 0x7088#16 n v (.adcWSsfifo2 v) s bad ∧ WordRuns 0x70A8#16 n v (.adcWSsfifo3 v) s bad ∧
    WordRuns 0x704C#16 n v (.adcWSsfstat0 v) s bad ∧ WordRuns 0x706C#16 n v (.adcWSsfstat1 v) s bad ∧
    WordRuns 0x708C#16 n v (.adcWSsfstat2 v) s bad ∧ WordRuns 0x70AC#16 n v (.adcWSsfstat3 v) s bad

/-! ## Reset, save and restore, and the clock -/

/-- 70_reset_and_hazards.md R351, R352, R353, R354: the four block resets. Model's own: the record of the release that the
I2C reset calls (log 14). -/
def Obligations.BlockResets : Prop :=
  ∀ (s : State) (n : Nat) (v : Word),
    (n < s.gptm.length →
      WordRuns 0x8FFF#16 n v (.gptmEvReset n) s
        { s with
          gptm :=
            s.gptm.set n
              { config := 0, mode := ⟨0, 0⟩, control := 0, rawStatus := 0, interruptMask := 0, load := ⟨0, 0⟩
                matchReg := ⟨0, 0⟩, prescale := ⟨0, 0⟩, matchPrescale := ⟨0, 0⟩, rtcCounter := 0
                nextDeadline := ⟨0, 0⟩, armed := ⟨false, false⟩ } }) ∧
    (∀ c, boardClass s.ssys.board.did0 = some c →
      WordRuns 0xAFFF#16 n v .ssysEvReset s
        { s with
          ssys :=
            { board := s.ssys.board
              rccControl := 0x078E3AC0
              rccConfig := 0
              rcc2 := if c = .sandstorm then 0 else 0x07802810
              words :=
                { pborctl := 0x7FFD, ldopctl := 0, srcr0 := 0, srcr1 := 0, srcr2 := 0, ris := 0, imc := 0, misc := 0
                  resc := 0, rcgc0 := 1, rcgc1 := 0, rcgc2 := 0, scgc0 := 1, scgc1 := 0, scgc2 := 0, dcgc0 := 1
                  dcgc1 := 0, dcgc2 := 0, clkvclr := 0, ldoarst := 0, user0 := 0, user1 := 0 }
              systemClockScale := s.params.scaleMult * 16 } }) ∧
    (boardClass s.ssys.board.did0 = none →
      WordRuns 0xAFFF#16 n v .ssysEvReset s { s with faulted := some .ssysBoardClass }) ∧
    WordRuns 0xCFFF#16 n v .i2cEvReset s
      { s with
        i2c :=
          { slaveAddress := 0, controlStatus := 0, dataRegister := 0, timingRegister := 1, interruptMask := 0
            rawInterruptStatus := 0, masterConfig := 0 }
        bus :=
          if s.i2c.controlStatus.getLsbD 6 then
            { s.bus with
              holder := if s.bus.holder = .self then .none else s.bus.holder
              calls := s.bus.calls ++ [.release] }
          else s.bus } ∧
    WordRuns 0xEFFF#16 n v .adcEvReset s
      { s with
        adc :=
          { activeSequencers := 0, rawInterruptStatus := 0, interruptMask := 0, sampleSource := 0, overflow := 0
            underflow := 0, seqPriority := 0, averaging := 0, mux := #v[0, 0, 0, 0], ctl := #v[0, 0, 0, 0]
            fifo := Vector.replicate 4 { state := 0x100, data := Vector.replicate 16 0 }, noise := 0 } }

/-- 70_reset_and_hazards.md R355: Reset(all) is one step that is the SSYS reset, then every GPTM reset, then the I2C reset,
then the ADC reset; an unrecognised board ends the run before any other block is touched. -/
def Obligations.ResetAllRunsTheResetsInOrder : Prop :=
  ∀ s : State, s.hostBlocked = false →
    (boardClass s.ssys.board.did0 = none →
      perform .resetAll s = .next { s with faulted := some .ssysBoardClass }) ∧
    (boardClass s.ssys.board.did0 ≠ none →
      ∃ t1 t2 t3 t4,
        exec .ssysEvReset s = .next t1 ∧
        t2 = { t1 with gptm := List.replicate s.gptm.length Gptm.reset } ∧
        exec .i2cEvReset t2 = .next t3 ∧ exec .adcEvReset t3 = .next t4 ∧ perform .resetAll s = .next t4)

/-- 70_reset_and_hazards.md R366: the four restores, of a snapshot that Save produced; any other is refused. Model's own:
the number that names a snapshot in the list of its kind, a GPTM snapshot for any instance, and the refusal by that number
(log 12). -/
def Obligations.BlockRestores : Prop :=
  ∀ (s : State) (n : Nat) (k : Word),
    (∀ g, n < s.gptm.length → s.saved.gptm[k.toNat]? = some g →
      WordRuns 0x8FFE#16 n k (.gptmEvRestore n k) s { s with gptm := s.gptm.set n g }) ∧
    (∀ y, s.saved.ssys[k.toNat]? = some y →
      WordRuns 0xAFFE#16 n k (.ssysEvRestore k) s
        { s with
          ssys :=
            { board := s.ssys.board
              rccControl := y.rccControl
              rccConfig := y.rccConfig
              rcc2 := y.rcc2
              words := y.words
              systemClockScale := clockScale s.params y.rccControl y.rcc2 } }) ∧
    (∀ x, s.saved.i2c[k.toNat]? = some x → WordRuns 0xCFFE#16 n k (.i2cEvRestore k) s { s with i2c := x }) ∧
    (∀ a, s.saved.adc[k.toNat]? = some a → WordRuns 0xEFFE#16 n k (.adcEvRestore k) s { s with adc := a }) ∧
    (n < s.gptm.length → s.saved.gptm.length ≤ k.toNat →
      exec (.gptmEvRestore n k) s = .refused (.noSuchSnapshot k.toNat)) ∧
    (s.saved.ssys.length ≤ k.toNat → exec (.ssysEvRestore k) s = .refused (.noSuchSnapshot k.toNat)) ∧
    (s.saved.i2c.length ≤ k.toNat → exec (.i2cEvRestore k) s = .refused (.noSuchSnapshot k.toNat)) ∧
    (s.saved.adc.length ≤ k.toNat → exec (.adcEvRestore k) s = .refused (.noSuchSnapshot k.toNat))

/-- Round trip (the spec's derived law in 70_reset_and_hazards.md section 3): Save and then Restore of what it produced leaves
every block, and so every armed deadline, as it was; only the host's store has grown. -/
def Obligations.SaveThenRestoreChangesNothing : Prop :=
  ∀ (s : State) (b : Block) (n : Nat), s.faulted = none → s.hostBlocked = false → s.ssys.Inv s.params → s.hasBlock b n = true →
    s.saved.gptm.length < 2 ^ 32 → s.saved.ssys.length < 2 ^ 32 → s.saved.i2c.length < 2 ^ 32 →
    s.saved.adc.length < 2 ^ 32 →
    let e : BitVec 15 :=
      match b with
      | .gptm => 0x0FFE#15
      | .ssys => 0x2FFE#15
      | .i2c => 0x4FFE#15
      | .adc => 0x6FFE#15
    let k : Nat :=
      match b with
      | .gptm => s.saved.gptm.length
      | .ssys => s.saved.ssys.length
      | .i2c => s.saved.i2c.length
      | .adc => s.saved.adc.length
    ∃ saved, performAll [.save b n, .event e n (BitVec.ofNat 32 k)] s = .next { s with saved := saved }

/-- 20_memory.md R82, R83: time never goes back; under `free` it may pass any deadline, under `exact` it cannot pass an
armed one. -/
def Obligations.AdvanceFollowsFireTiming : Prop :=
  ∀ (s : State) (t : Nat),
    (t < s.now → perform (.advance t) s = .refused .timeBackwards) ∧
    (s.now ≤ t → s.params.fireTiming = .free → perform (.advance t) s = .next { s with now := t }) ∧
    (s.now ≤ t → s.params.fireTiming = .exact →
      (∀ g ∈ s.gptm, (g.armed.a = true → t ≤ g.nextDeadline.a) ∧ (g.armed.b = true → t ≤ g.nextDeadline.b)) →
      perform (.advance t) s = .next { s with now := t }) ∧
    (s.now ≤ t → s.params.fireTiming = .exact →
      (∃ g ∈ s.gptm, (g.armed.a = true ∧ g.nextDeadline.a < t) ∨ (g.armed.b = true ∧ g.nextDeadline.b < t)) →
      perform (.advance t) s = .refused .fireDueFirst)

/-- 20_memory.md R83, the host under `exact`: `hostBlocked` says that the timing is `exact` and some armed deadline equals
`now`; while it does, no access, reset or save is a step, and a fire still is. Model's reading: nothing else is held back
(log 26). -/
def Obligations.HostStepsWaitForADueDeadline : Prop :=
  ∀ s : State,
    (s.hostBlocked = true ↔
      s.params.fireTiming = .exact ∧
      ∃ g ∈ s.gptm,
        (g.armed.a = true ∧ g.nextDeadline.a = s.now) ∨ (g.armed.b = true ∧ g.nextDeadline.b = s.now)) ∧
    (s.hostBlocked = true →
      (∀ d b n off size v, perform (.access d b n off size v) s = .refused .fireDueFirst) ∧
      perform .resetAll s = .refused .fireDueFirst ∧
      (∀ b n, perform (.save b n) s = .refused .fireDueFirst) ∧
      ∀ e ∈ [0x0FFF#15, 0x2FFF#15, 0x4FFF#15, 0x6FFF#15], ∀ n k,
        perform (.event e n k) s = .refused .fireDueFirst) ∧
    (∀ n k,
      perform (.event 0x0000#15 n k) s = exec (.gptmEvFireA n) s ∧
      perform (.event 0x0001#15 n k) s = exec (.gptmEvFireB n) s ∧
      perform (.event 0x0FFE#15 n k) s = exec (.gptmEvRestore n k) s ∧
      perform (.event 0x2FFE#15 n k) s = exec (.ssysEvRestore k) s ∧
      perform (.event 0x4FFE#15 n k) s = exec (.i2cEvRestore k) s ∧
      perform (.event 0x6FFE#15 n k) s = exec (.adcEvRestore k) s)

/-- 60_exceptions.md R316, R317, R318, R319: the interrupt lines. In a faulted state the GPTM line's level is the model's
choice (log 31). -/
def Obligations.InterruptLines : Prop :=
  (∀ g : Gptm, g.irq = true ↔ g.rawStatus &&& g.interruptMask ≠ 0#32) ∧
  (∀ y : Ssys, y.irq = true ↔ y.words.ris &&& y.words.imc ≠ 0#32) ∧
  (∀ x : I2c, x.irq = true ↔ x.rawInterruptStatus &&& x.interruptMask ≠ 0#32) ∧
  (∀ (a : Adc) (n : Fin 4),
    a.irq n = true ↔ ((a.rawInterruptStatus &&& a.interruptMask) >>> n.val).getLsbD 0 = true)

/-! ## The whole machine -/

/-- The invariant of every block and of every saved snapshot holds at reset (log 8 names the board, log 12 the store of
snapshots, empty there). -/
def Obligations.InvariantHoldsAtReset : Prop := State.reset.Inv

/-- Every step keeps the invariant: the stored registers stay within what the tables of 10_state.md, 42_i2c.md and
43_adc.md allow, channel B is never armed, the scale is the one its registers give, and every FIFO state word is legal.
Model's own: FIFO capacities other than the spec's 16 (log 30), and the store of saved snapshots, whose registers meet the
same bounds (log 12). -/
def Obligations.StepKeepsInvariant : Prop :=
  ∀ s t : State, s.Inv → step s = .next t → t.Inv

/-- The protocol flags of 60_exceptions.md R314 and the raw status bits of R314 and R321 never fall by themselves: outside
the block's own reset and restore (and Reset(all)), a bit of GPTM RIS falls only by a one written to that instance's ICR, a
bit of SSYS RIS only by a write of the catch-all word with a zero there, an ADC bit or an MRIS bit only by a one written to
its clear register, and an MCS flag only by an MCS command with MFE set: ARBLST by a START that finds BUSBSY clear, ERROR by
a command that finds the bus held or whose START takes it. -/
def Obligations.StatusBitsFallOnlyWhereTheFirmwareClearsThem : Prop :=
  ∀ (s t : State) (x : Stimulus), StepBy x s t → x ≠ .resetAll →
    (∀ (m : Nat) (g h : Gptm), s.gptm[m]? = some g → t.gptm[m]? = some h →
      (∀ k, x ≠ .event 0x0FFE#15 m k ∧ x ≠ .event 0x0FFF#15 m k) →
      ∀ k, g.rawStatus.getLsbD k = true → h.rawStatus.getLsbD k = false →
        ∃ v, x = .access .write .gptm m 0x024 4 v ∧ v.getLsbD k = true) ∧
    ((∀ n k, x ≠ .event 0x2FFE#15 n k ∧ x ≠ .event 0x2FFF#15 n k) →
      ∀ k, s.ssys.words.ris.getLsbD k = true → t.ssys.words.ris.getLsbD k = false →
        ∃ n v, x = .access .write .ssys n 0x050 4 v ∧ v.getLsbD k = false) ∧
    ((∀ n k, x ≠ .event 0x6FFE#15 n k ∧ x ≠ .event 0x6FFF#15 n k) →
      (∀ k, s.adc.overflow.getLsbD k = true → t.adc.overflow.getLsbD k = false →
        ∃ n v, x = .access .write .adc n 0x010 4 v ∧ v.getLsbD k = true) ∧
      (∀ k, s.adc.underflow.getLsbD k = true → t.adc.underflow.getLsbD k = false →
        ∃ n v, x = .access .write .adc n 0x018 4 v ∧ v.getLsbD k = true) ∧
      ∀ k, s.adc.rawInterruptStatus.getLsbD k = true → t.adc.rawInterruptStatus.getLsbD k = false →
        ∃ n v, x = .access .write .adc n 0x00C 4 v ∧ v.getLsbD k = true) ∧
    ((∀ n k, x ≠ .event 0x4FFE#15 n k ∧ x ≠ .event 0x4FFF#15 n k) →
      (∀ k, s.i2c.rawInterruptStatus.getLsbD k = true → t.i2c.rawInterruptStatus.getLsbD k = false →
        ∃ n v, x = .access .write .i2c n 0x01C 4 v ∧ v.getLsbD k = true) ∧
      ∀ k, s.i2c.controlStatus.getLsbD k = true → t.i2c.controlStatus.getLsbD k = false →
        ∃ n v, x = .access .write .i2c n 0x004 4 v ∧ s.i2c.masterConfig.getLsbD 4 = true ∧
          (k = 4 → v.getLsbD 1 = true ∧ s.i2c.controlStatus.getLsbD 6 = false) ∧
          (k = 1 →
            (s.i2c.controlStatus.getLsbD 6 = true ∧ s.bus.holder ≠ .none) ∨
            (s.i2c.controlStatus.getLsbD 6 = false ∧ v.getLsbD 1 = true ∧ s.bus.holder ≠ .other)))

/-- 20_memory.md R75: a register read that does not fault changes no state, only the value handed to the host, unless it is
a read of SSFIFOn. -/
def Obligations.ReadsArePure : Prop :=
  ∀ (s t : State) (b : Block) (n off size : Nat) (v : Word),
    perform (.access .read b n off size v) s = .next t → (b = .adc → off ∉ [0x048, 0x068, 0x088, 0x0A8]) →
    t = { s with readData := t.readData } ∨ ∃ c, t = { s with faulted := some c }

/-- The virtual time never decreases and only Advance changes it (10_state.md R22, 70_reset_and_hazards.md R380), and no step
changes a parameter or an identity word of the board (00_scope.md R10, 10_state.md R37). -/
def Obligations.TimeParametersAndBoardAreKept : Prop :=
  ∀ (s t : State) (x : Stimulus), StepBy x s t →
    t.params = s.params ∧ t.ssys.board = s.ssys.board ∧ t.gptm.length = s.gptm.length ∧ s.now ≤ t.now ∧
    ((∀ u, x ≠ .advance u) → t.now = s.now)

/-- 40_gptm.md R102, 41_ssys.md R183: no SSYS access or event touches a GPTM instance, so a deadline already armed keeps its
place; and after any SSYS access that does not fault the scale is the one the registers give. -/
def Obligations.ScaleChangesReachOnlyLaterReloads : Prop :=
  ∀ (s t : State) (d : Dir) (n off size : Nat) (v : Word),
    perform (.access d .ssys n off size v) s = .next t →
    t.gptm = s.gptm ∧ t.i2c = s.i2c ∧ t.adc = s.adc ∧
    (d = .write → t.faulted = s.faulted → s.faulted = none →
      t.ssys.systemClockScale = clockScale s.params t.ssys.rccControl t.ssys.rcc2)
end

