-- ==== Sys2Proof/Laws/Decode.lean ====
section
/-! SUPPORT. The small lemmas of the decoder: what each field of an access or event word is, and when a map has no row at
an offset. The provers cite these instead of unfolding the word. -/

namespace Sys2Proof

/-- A word of four upper bits and an offset keeps its upper bits under the mask of an undefined-offset row. -/
theorem append_and_upper (p : BitVec 4) (off : BitVec 12) :
    (p ++ off : BitVec 16) &&& 0xF000#16 = (p ++ 0#12 : BitVec 16) := by
  ext i hi
  rw [BitVec.getElem_and, BitVec.getElem_append, BitVec.getElem_append]
  interval_cases i <;> simp

theorem offsetField_append (p : BitVec 4) (off : BitVec 12) : offsetField (p ++ off : BitVec 16) = off := by
  unfold offsetField
  ext i hi
  rw [BitVec.getElem_extractLsb', BitVec.getLsbD_append]
  simp [hi]

theorem kindField_append (p : BitVec 4) (off : BitVec 12) : kindField (p ++ off : BitVec 16) = p.extractLsb' 3 1 := by
  unfold kindField
  ext i hi
  rw [BitVec.getElem_extractLsb', BitVec.getLsbD_append, BitVec.getElem_extractLsb', if_neg (by omega)]
  congr 1
  omega

theorem blockField_append (p : BitVec 4) (off : BitVec 12) : blockField (p ++ off : BitVec 16) = p.extractLsb' 1 2 := by
  unfold blockField
  ext i hi
  rw [BitVec.getElem_extractLsb', BitVec.getLsbD_append, BitVec.getElem_extractLsb', if_neg (by omega)]
  congr 1
  omega

theorem dirField_append (p : BitVec 4) (off : BitVec 12) : dirField (p ++ off : BitVec 16) = p.extractLsb' 0 1 := by
  unfold dirField
  ext i hi
  rw [BitVec.getElem_extractLsb', BitVec.getLsbD_append, BitVec.getElem_extractLsb', if_neg (by omega)]
  congr 1
  omega

/-- An access word is its four upper bits and its offset (30_encoding.md R90). -/
theorem accessWord_eq (b : Block) (d : Dir) (off : BitVec 12) :
    accessWord b d off = (0#1 ++ b.bits ++ d.bit : BitVec 4) ++ off := rfl

/-- An event word is its four upper bits and its code (30_encoding.md R90). -/
theorem eventWord_eq (b : Block) (code : BitVec 12) :
    eventWord b code = (1#1 ++ b.bits ++ 0#1 : BitVec 4) ++ code := rfl

@[simp] theorem accessWord_kind (b : Block) (d : Dir) (off : BitVec 12) : kindField (accessWord b d off) = 0#1 := by
  rw [accessWord_eq, kindField_append]
  cases b <;> cases d <;> decide

@[simp] theorem accessWord_block (b : Block) (d : Dir) (off : BitVec 12) :
    Block.ofBits (blockField (accessWord b d off)) = b := by
  rw [accessWord_eq, blockField_append]
  cases b <;> cases d <;> decide

@[simp] theorem accessWord_dir (b : Block) (d : Dir) (off : BitVec 12) :
    Dir.ofBit (dirField (accessWord b d off)) = d := by
  rw [accessWord_eq, dirField_append]
  cases b <;> cases d <;> decide

@[simp] theorem accessWord_offset (b : Block) (d : Dir) (off : BitVec 12) : offsetField (accessWord b d off) = off := by
  rw [accessWord_eq, offsetField_append]

@[simp] theorem eventWord_kind (b : Block) (code : BitVec 12) : kindField (eventWord b code) = 1#1 := by
  rw [eventWord_eq, kindField_append]
  cases b <;> decide

@[simp] theorem eventWord_block (b : Block) (code : BitVec 12) : Block.ofBits (blockField (eventWord b code)) = b := by
  rw [eventWord_eq, blockField_append]
  cases b <;> decide

@[simp] theorem eventWord_dir (b : Block) (code : BitVec 12) : dirField (eventWord b code) = 0#1 := by
  rw [eventWord_eq, dirField_append]
  cases b <;> decide

@[simp] theorem eventWord_offset (b : Block) (code : BitVec 12) : offsetField (eventWord b code) = code := by
  rw [eventWord_eq, offsetField_append]

/-- Every access word decodes to its block's row or to the undefined-offset operation (30_encoding.md R91). -/
theorem decode_accessWord (b : Block) (d : Dir) (off : BitVec 12) (n : Nat) (v : Word) :
    decode ⟨accessWord b d off, n, v⟩ = .ok (decodeAccess b d off n v) := by
  simp [decode]

/-- An event word decodes by its code (30_encoding.md R91, R97). -/
theorem decode_eventWord (b : Block) (code : BitVec 12) (n : Nat) (v : Word) :
    decode ⟨eventWord b code, n, v⟩ =
      match decodeEvent b code n v with
      | some i => .ok i
      | none => .error (.noSuchEvent (eventWord b code)) := by
  simp only [decode, eventWord_kind, eventWord_dir, eventWord_block, eventWord_offset, if_true]
  refine (if_neg (by decide)).trans ?_
  cases decodeEvent b code n v <;> rfl

theorem gptmReadRow_eq_none (n o : Nat) : gptmReadRow n o = none ↔ gptmOffsets.contains o = false := by
  unfold gptmReadRow gptmOffsets
  split <;> simp_all

theorem gptmWriteRow_eq_none (n : Nat) (v : Word) (o : Nat) :
    gptmWriteRow n v o = none ↔ gptmOffsets.contains o = false := by
  unfold gptmWriteRow gptmOffsets
  split <;> simp_all

theorem ssysReadRow_eq_none (o : Nat) : ssysReadRow o = none ↔ ssysOffsets.contains o = false := by
  unfold ssysReadRow ssysOffsets
  split <;> simp_all

theorem ssysWriteRow_eq_none (v : Word) (o : Nat) : ssysWriteRow v o = none ↔ ssysOffsets.contains o = false := by
  unfold ssysWriteRow ssysOffsets
  split <;> simp_all

theorem i2cReadRow_eq_none (o : Nat) : i2cReadRow o = none ↔ i2cOffsets.contains o = false := by
  unfold i2cReadRow i2cOffsets
  split <;> simp_all

theorem i2cWriteRow_eq_none (v : Word) (o : Nat) : i2cWriteRow v o = none ↔ i2cOffsets.contains o = false := by
  unfold i2cWriteRow i2cOffsets
  split <;> simp_all

theorem adcReadRow_eq_none (o : Nat) : adcReadRow o = none ↔ adcOffsets.contains o = false := by
  unfold adcReadRow adcOffsets
  split <;> simp_all

theorem adcWriteRow_eq_none (v : Word) (o : Nat) : adcWriteRow v o = none ↔ adcOffsets.contains o = false := by
  unfold adcWriteRow adcOffsets
  split <;> simp_all

end Sys2Proof
end

