-- ==== Sys2Proof/Laws/State.lean ====
section
/-! SUPPORT. What each named update of State and of its blocks leaves in each field: one lemma for a field and an update,
true by definition, so that no later proof unfolds an update. -/

namespace Sys2Proof.Machine

/-! ## Channels -/

@[simp] theorem Pair.get_a {α : Type} (p : Pair α) : p.get .a = p.a := rfl
@[simp] theorem Pair.get_b {α : Type} (p : Pair α) : p.get .b = p.b := rfl
@[simp] theorem Pair.set_a_a {α : Type} (p : Pair α) (x : α) : (p.set .a x).a = x := rfl
@[simp] theorem Pair.set_a_b {α : Type} (p : Pair α) (x : α) : (p.set .a x).b = p.b := rfl
@[simp] theorem Pair.set_b_a {α : Type} (p : Pair α) (x : α) : (p.set .b x).a = p.a := rfl
@[simp] theorem Pair.set_b_b {α : Type} (p : Pair α) (x : α) : (p.set .b x).b = x := rfl

theorem Pair.get_set_self {α : Type} (p : Pair α) (c : Channel) (x : α) : (p.set c x).get c = x := by cases c <;> rfl

theorem Pair.set_get_self {α : Type} (p : Pair α) (c : Channel) : p.set c (p.get c) = p := by cases c <;> rfl

/-! ## State -/

@[simp] theorem State.setGptm_params (s : State) (n : Nat) (g : Gptm) : (s.setGptm n g).params = s.params := rfl
@[simp] theorem State.setGptm_now (s : State) (n : Nat) (g : Gptm) : (s.setGptm n g).now = s.now := rfl
@[simp] theorem State.setGptm_faulted (s : State) (n : Nat) (g : Gptm) : (s.setGptm n g).faulted = s.faulted := rfl
@[simp] theorem State.setGptm_gptm (s : State) (n : Nat) (g : Gptm) : (s.setGptm n g).gptm = s.gptm.set n g := rfl
@[simp] theorem State.setGptm_ssys (s : State) (n : Nat) (g : Gptm) : (s.setGptm n g).ssys = s.ssys := rfl
@[simp] theorem State.setGptm_i2c (s : State) (n : Nat) (g : Gptm) : (s.setGptm n g).i2c = s.i2c := rfl
@[simp] theorem State.setGptm_bus (s : State) (n : Nat) (g : Gptm) : (s.setGptm n g).bus = s.bus := rfl
@[simp] theorem State.setGptm_adc (s : State) (n : Nat) (g : Gptm) : (s.setGptm n g).adc = s.adc := rfl
@[simp] theorem State.setGptm_readData (s : State) (n : Nat) (g : Gptm) : (s.setGptm n g).readData = s.readData := rfl
@[simp] theorem State.setGptm_saved (s : State) (n : Nat) (g : Gptm) : (s.setGptm n g).saved = s.saved := rfl
@[simp] theorem State.setGptm_pending (s : State) (n : Nat) (g : Gptm) : (s.setGptm n g).pending = s.pending := rfl

/-! ## GPTM -/

@[simp] theorem Gptm.arm_config (g : Gptm) (c : Channel) (t : Nat) : (g.arm c t).config = g.config := rfl
@[simp] theorem Gptm.arm_mode (g : Gptm) (c : Channel) (t : Nat) : (g.arm c t).mode = g.mode := rfl
@[simp] theorem Gptm.arm_control (g : Gptm) (c : Channel) (t : Nat) : (g.arm c t).control = g.control := rfl
@[simp] theorem Gptm.arm_rawStatus (g : Gptm) (c : Channel) (t : Nat) : (g.arm c t).rawStatus = g.rawStatus := rfl
@[simp] theorem Gptm.arm_interruptMask (g : Gptm) (c : Channel) (t : Nat) : (g.arm c t).interruptMask = g.interruptMask := rfl
@[simp] theorem Gptm.arm_load (g : Gptm) (c : Channel) (t : Nat) : (g.arm c t).load = g.load := rfl
@[simp] theorem Gptm.arm_matchReg (g : Gptm) (c : Channel) (t : Nat) : (g.arm c t).matchReg = g.matchReg := rfl
@[simp] theorem Gptm.arm_prescale (g : Gptm) (c : Channel) (t : Nat) : (g.arm c t).prescale = g.prescale := rfl
@[simp] theorem Gptm.arm_matchPrescale (g : Gptm) (c : Channel) (t : Nat) : (g.arm c t).matchPrescale = g.matchPrescale := rfl
@[simp] theorem Gptm.arm_rtcCounter (g : Gptm) (c : Channel) (t : Nat) : (g.arm c t).rtcCounter = g.rtcCounter := rfl
@[simp] theorem Gptm.arm_nextDeadline (g : Gptm) (c : Channel) (t : Nat) : (g.arm c t).nextDeadline = g.nextDeadline.set c t := rfl
@[simp] theorem Gptm.arm_armed (g : Gptm) (c : Channel) (t : Nat) : (g.arm c t).armed = g.armed.set c true := rfl

@[simp] theorem Gptm.disarm_config (g : Gptm) (c : Channel) : (g.disarm c).config = g.config := rfl
@[simp] theorem Gptm.disarm_mode (g : Gptm) (c : Channel) : (g.disarm c).mode = g.mode := rfl
@[simp] theorem Gptm.disarm_control (g : Gptm) (c : Channel) : (g.disarm c).control = g.control := rfl
@[simp] theorem Gptm.disarm_rawStatus (g : Gptm) (c : Channel) : (g.disarm c).rawStatus = g.rawStatus := rfl
@[simp] theorem Gptm.disarm_interruptMask (g : Gptm) (c : Channel) : (g.disarm c).interruptMask = g.interruptMask := rfl
@[simp] theorem Gptm.disarm_load (g : Gptm) (c : Channel) : (g.disarm c).load = g.load := rfl
@[simp] theorem Gptm.disarm_matchReg (g : Gptm) (c : Channel) : (g.disarm c).matchReg = g.matchReg := rfl
@[simp] theorem Gptm.disarm_prescale (g : Gptm) (c : Channel) : (g.disarm c).prescale = g.prescale := rfl
@[simp] theorem Gptm.disarm_matchPrescale (g : Gptm) (c : Channel) : (g.disarm c).matchPrescale = g.matchPrescale := rfl
@[simp] theorem Gptm.disarm_rtcCounter (g : Gptm) (c : Channel) : (g.disarm c).rtcCounter = g.rtcCounter := rfl
@[simp] theorem Gptm.disarm_nextDeadline (g : Gptm) (c : Channel) : (g.disarm c).nextDeadline = g.nextDeadline := rfl
@[simp] theorem Gptm.disarm_armed (g : Gptm) (c : Channel) : (g.disarm c).armed = g.armed.set c false := rfl

@[simp] theorem Gptm.ok_gptm (g : Gptm) : g.ok.gptm = g := rfl
@[simp] theorem Gptm.ok_fault (g : Gptm) : g.ok.fault = none := rfl
@[simp] theorem Gptm.raise_gptm (g : Gptm) (e : FaultCode) : (g.raise e).gptm = g := rfl
@[simp] theorem Gptm.raise_fault (g : Gptm) (e : FaultCode) : (g.raise e).fault = some e := rfl
@[simp] theorem GptmRun.ok_andThen (g : Gptm) (f : Gptm → GptmRun) : g.ok.andThen f = f g := rfl
@[simp] theorem GptmRun.raise_andThen (g : Gptm) (e : FaultCode) (f : Gptm → GptmRun) :
    (g.raise e).andThen f = g.raise e := rfl

/-! ## SSYS -/

@[simp] theorem Ssys.recompute_board (p : Params) (y : Ssys) : (y.recompute p).board = y.board := rfl
@[simp] theorem Ssys.recompute_rccControl (p : Params) (y : Ssys) : (y.recompute p).rccControl = y.rccControl := rfl
@[simp] theorem Ssys.recompute_rccConfig (p : Params) (y : Ssys) : (y.recompute p).rccConfig = y.rccConfig := rfl
@[simp] theorem Ssys.recompute_rcc2 (p : Params) (y : Ssys) : (y.recompute p).rcc2 = y.rcc2 := rfl
@[simp] theorem Ssys.recompute_words (p : Params) (y : Ssys) : (y.recompute p).words = y.words := rfl
@[simp] theorem Ssys.recompute_systemClockScale (p : Params) (y : Ssys) : (y.recompute p).systemClockScale = clockScale p y.rccControl y.rcc2 := rfl

@[simp] theorem Ssys.writeRcc_board (y : Ssys) (v : Word) : (y.writeRcc v).board = y.board := rfl
@[simp] theorem Ssys.writeRcc_rccControl (y : Ssys) (v : Word) : (y.writeRcc v).rccControl = v := rfl
@[simp] theorem Ssys.writeRcc_rccConfig (y : Ssys) (v : Word) : (y.writeRcc v).rccConfig = y.rccConfig := rfl
@[simp] theorem Ssys.writeRcc_rcc2 (y : Ssys) (v : Word) : (y.writeRcc v).rcc2 = y.rcc2 := rfl
@[simp] theorem Ssys.writeRcc_systemClockScale (y : Ssys) (v : Word) : (y.writeRcc v).systemClockScale = y.systemClockScale := rfl

theorem Ssys.writeRcc_words (y : Ssys) (v : Word) :
    (y.writeRcc v).words =
      { y.words with ris := if pwrdn y.rccControl && !pwrdn v then markPll y.words.ris else y.words.ris } := by
  unfold Ssys.writeRcc
  cases pwrdn y.rccControl && !pwrdn v <;> rfl

theorem CatchallWords.get_set_self (w : CatchallWords) (r : CatchallReg) (v : Word) : (w.set r v).get r = v := by
  cases r <;> rfl

theorem CatchallWords.get_set_of_ne (w : CatchallWords) {r q : CatchallReg} (v : Word) (h : q ≠ r) :
    (w.set r v).get q = w.get q := by
  cases r <;> cases q <;> first | rfl | exact absurd rfl h

/-! ## I2C and its bus -/

@[simp] theorem I2cBus.sendByte_holder (b : I2cBus) (x : Byte) : (b.sendByte x).holder = b.holder := rfl
@[simp] theorem I2cBus.sendByte_nextAcquire (b : I2cBus) (x : Byte) : (b.sendByte x).nextAcquire = b.nextAcquire := rfl
@[simp] theorem I2cBus.sendByte_nextRecv (b : I2cBus) (x : Byte) : (b.sendByte x).nextRecv = b.nextRecv := rfl
@[simp] theorem I2cBus.sendByte_draws (b : I2cBus) (x : Byte) : (b.sendByte x).draws = b.draws := rfl
@[simp] theorem I2cBus.sendByte_calls (b : I2cBus) (x : Byte) : (b.sendByte x).calls = b.calls ++ [.sendByte x] := rfl

@[simp] theorem I2cBus.recvByte_holder (b : I2cBus) : (b.recvByte).holder = b.holder := rfl
@[simp] theorem I2cBus.recvByte_nextAcquire (b : I2cBus) : (b.recvByte).nextAcquire = b.nextAcquire := rfl
@[simp] theorem I2cBus.recvByte_nextRecv (b : I2cBus) : (b.recvByte).nextRecv = none := rfl
@[simp] theorem I2cBus.recvByte_draws (b : I2cBus) : (b.recvByte).draws = b.draws + 1 := rfl
@[simp] theorem I2cBus.recvByte_calls (b : I2cBus) : (b.recvByte).calls = b.calls ++ [.recvByte b.drawRecv] := rfl

@[simp] theorem I2cBus.release_holder (b : I2cBus) : (b.release).holder = if b.holder = .self then .none else b.holder := rfl
@[simp] theorem I2cBus.release_nextAcquire (b : I2cBus) : (b.release).nextAcquire = b.nextAcquire := rfl
@[simp] theorem I2cBus.release_nextRecv (b : I2cBus) : (b.release).nextRecv = b.nextRecv := rfl
@[simp] theorem I2cBus.release_draws (b : I2cBus) : (b.release).draws = b.draws := rfl
@[simp] theorem I2cBus.release_calls (b : I2cBus) : (b.release).calls = b.calls ++ [.release] := rfl

end Sys2Proof.Machine
end

