-- ==== Sys2Proof/Laws/Ops.lean ====
section
/-! SUPPORT. For each shared operation one lemma that says once what it can do: when it answers a next state, and which.
The provers cite these instead of unfolding the operation. -/

namespace Sys2Proof.Machine

/-! ## Faults and access forms -/

@[simp] theorem takeFault_eq_next (c : FaultCode) (s t : State) :
    takeFault c s = .next t ↔ t = { s with faulted := some c } := by
  unfold takeFault
  constructor <;> intro h
  · injection h with h; exact h.symm
  · rw [h]

@[simp] theorem returnValue_eq_next (v : Word) (s t : State) :
    returnValue v s = .next t ↔ t = { s with readData := v } := by
  unfold returnValue
  constructor <;> intro h
  · injection h with h; exact h.symm
  · rw [h]

/-- An instance the board has is the one operated on. -/
theorem withGptm_some {n : Nat} {s : State} {g : Gptm} (h : s.gptm[n]? = some g) (k : Gptm → Result) :
    withGptm n s k = k g := by
  unfold withGptm; rw [h]

/-- An instance the board does not have is refused. -/
theorem withGptm_none {n : Nat} {s : State} (h : s.gptm.length ≤ n) (k : Gptm → Result) :
    withGptm n s k = .refused (.noSuchInstance n) := by
  unfold withGptm; rw [List.getElem?_eq_none h]

theorem withGptm_eq_next (n : Nat) (s t : State) (k : Gptm → Result) :
    withGptm n s k = .next t ↔ ∃ g, s.gptm[n]? = some g ∧ k g = .next t := by
  unfold withGptm
  cases s.gptm[n]? <;> simp

theorem readGptm_eq_next (n : Nat) (f : Gptm → Word) (s t : State) :
    readGptm n f s = .next t ↔ ∃ g, s.gptm[n]? = some g ∧ t = { s with readData := f g } := by
  simp [readGptm, withGptm_eq_next]

theorem writeGptm_eq_next (n : Nat) (f : Gptm → Gptm) (s t : State) :
    writeGptm n f s = .next t ↔ ∃ g, s.gptm[n]? = some g ∧ t = s.setGptm n (f g) := by
  simp [writeGptm, withGptm_eq_next, @eq_comm State]

theorem faultGptm_eq_next (n : Nat) (c : FaultCode) (s t : State) :
    faultGptm n c s = .next t ↔ n < s.gptm.length ∧ t = { s with faulted := some c } := by
  simp only [faultGptm, withGptm_eq_next, takeFault_eq_next]
  constructor
  · rintro ⟨g, hg, rfl⟩
    exact ⟨(List.getElem?_eq_some_iff.mp hg).1, rfl⟩
  · rintro ⟨h, rfl⟩
    exact ⟨_, List.getElem?_eq_getElem h, rfl⟩

@[simp] theorem readSsys_eq_next (f : Ssys → Word) (s t : State) :
    readSsys f s = .next t ↔ t = { s with readData := f s.ssys } := by simp [readSsys]

@[simp] theorem writeSsys_eq_next (f : Ssys → Ssys) (s t : State) :
    writeSsys f s = .next t ↔ t = { s with ssys := (f s.ssys).recompute s.params } := by simp [writeSsys, @eq_comm State]

@[simp] theorem readCatchall_eq_next (r : CatchallReg) (s t : State) :
    readCatchall r s = .next t ↔ t = { s with readData := s.ssys.words.get r } := by simp [readCatchall]

@[simp] theorem writeCatchall_eq_next (r : CatchallReg) (v : Word) (s t : State) :
    writeCatchall r v s = .next t ↔
      t = { s with ssys := ({ s.ssys with words := s.ssys.words.set r v } : Ssys).recompute s.params } := by
  simp [writeCatchall]

@[simp] theorem readI2c_eq_next (f : I2c → Word) (s t : State) :
    readI2c f s = .next t ↔ t = { s with readData := f s.i2c } := by simp [readI2c]

@[simp] theorem writeI2c_eq_next (f : I2c → I2c) (s t : State) :
    writeI2c f s = .next t ↔ t = { s with i2c := f s.i2c } := by simp [writeI2c, @eq_comm State]

@[simp] theorem readAdc_eq_next (f : Adc → Word) (s t : State) :
    readAdc f s = .next t ↔ t = { s with readData := f s.adc } := by simp [readAdc]

@[simp] theorem writeAdc_eq_next (f : Adc → Adc) (s t : State) :
    writeAdc f s = .next t ↔ t = { s with adc := f s.adc } := by simp [writeAdc, @eq_comm State]

/-! ## GPTM -/

/-- The combined value of a pair of halves as a number (40_gptm.md R101). -/
theorem comb_toNat (p : Pair Half) : (comb p).toNat = p.a.toNat + p.b.toNat * 2 ^ 16 := by
  have hb := p.b.isLt
  have ha := p.a.isLt
  rw [comb, zextHalf, zextHalf, BitVec.toNat_or, BitVec.toNat_shiftLeft, BitVec.toNat_setWidth, BitVec.toNat_setWidth,
    Nat.mod_eq_of_lt (by omega), Nat.mod_eq_of_lt (a := p.b.toNat) (by omega), Nat.shiftLeft_eq,
    Nat.mod_eq_of_lt (by omega), Nat.or_comm, Nat.mul_comm, ← Nat.two_pow_add_eq_or_of_lt ha]
  omega

/-- A setting of an instance keeps how many there are. -/
theorem State.setGptm_length (s : State) (n : Nat) (g : Gptm) : (s.setGptm n g).gptm.length = s.gptm.length := by simp

/-- What is done to an instance reaches only that one. -/
theorem State.setGptm_getElem? {s : State} {n : Nat} (h : n < s.gptm.length) (g : Gptm) (m : Nat) :
    (s.setGptm n g).gptm[m]? = if n = m then some g else s.gptm[m]? := by
  simp [List.getElem?_set, h]

/-- An operation that ended without a fault stores its instance; one that ended in a fault also records it. -/
theorem commitGptm_eq_next (n : Nat) (r : GptmRun) (s t : State) :
    commitGptm n r s = .next t ↔
      (r.fault = none ∧ t = s.setGptm n r.gptm) ∨
      ∃ c, r.fault = some c ∧ t = { s.setGptm n r.gptm with faulted := some c } := by
  unfold commitGptm
  cases r.fault <;> simp [@eq_comm State]

/-- The four cases of a reload (40_gptm.md R103). -/
theorem Gptm.reload_cases (p : Params) (scale : Nat) (g : Gptm) (c : Channel) (base : Nat) :
    (g.config = 0#32 ∧ g.reload p scale c base = (g.arm c (base + (comb g.load).toNat * scale)).ok) ∨
    (g.config = 1#32 ∧ g.reload p scale c base = (g.arm c (base + p.ticksPerSecond)).ok) ∨
    (g.config ≠ 0#32 ∧ g.config ≠ 1#32 ∧ g.mode.get c = p.pwmSentinel ∧
      g.reload p scale c base = if p.quirks.pwmImmediateFire then (g.arm c base).ok else g.ok) ∨
    (g.config ≠ 0#32 ∧ g.config ≠ 1#32 ∧ g.mode.get c ≠ p.pwmSentinel ∧ g.reload p scale c base = g.raise .gptmMode) := by
  unfold Gptm.reload
  by_cases h0 : g.config = 0#32
  · exact .inl ⟨h0, by rw [if_pos h0]⟩
  · by_cases h1 : g.config = 1#32
    · exact .inr (.inl ⟨h1, by rw [if_neg h0, if_pos h1]⟩)
    · by_cases hm : g.mode.get c = p.pwmSentinel
      · exact .inr (.inr (.inl ⟨h0, h1, hm, by rw [if_neg h0, if_neg h1, if_pos hm]⟩))
      · exact .inr (.inr (.inr ⟨h0, h1, hm, by rw [if_neg h0, if_neg h1, if_neg hm]⟩))

/-- The three cases of an enable bit in a CTL write (40_gptm.md R133). -/
theorem Gptm.enableChange_cases (p : Params) (scale now : Nat) (c : Channel) (old new : Bool) (g : Gptm) :
    (old = new ∧ Gptm.enableChange p scale now c old new g = g.ok) ∨
    (old = false ∧ new = true ∧ Gptm.enableChange p scale now c old new g = g.reload p scale c now) ∨
    (old = true ∧ new = false ∧ Gptm.enableChange p scale now c old new g = (g.disarm c).ok) := by
  cases old <;> cases new <;> simp [Gptm.enableChange]

/-- A fire answers a next state exactly when it is enabled, and then it is its body's on the disarmed instance
(20_memory.md R83). -/
theorem fireChannel_eq_next (n : Nat) (c : Channel) (pulses : Gptm → Bool) (body : Gptm → GptmRun) (s t : State) :
    fireChannel n c pulses body s = .next t ↔
      ∃ g, s.gptm[n]? = some g ∧ g.fireEnabled c s.now = true ∧
        commitGptm n (body (g.disarm c)) (if pulses g then { s with adc := pulseAdc s.params n s.adc } else s) =
          .next t := by
  simp only [fireChannel, withGptm_eq_next]
  constructor
  · rintro ⟨g, hg, h⟩
    split at h
    · exact ⟨g, hg, ‹_›, h⟩
    · cases h
  · rintro ⟨g, hg, he, h⟩
    exact ⟨g, hg, by rw [if_pos he]; exact h⟩

theorem Gptm.fireEnabled_iff (g : Gptm) (c : Channel) (now : Nat) :
    g.fireEnabled c now = true ↔ g.armed.get c = true ∧ g.nextDeadline.get c ≤ now := by simp [Gptm.fireEnabled]

/-! ## SSYS -/

@[simp] theorem Ssys.recompute_recompute (p : Params) (y : Ssys) : (y.recompute p).recompute p = y.recompute p := rfl

/-- The SSYS reset (70_reset_and_hazards.md R352). -/
theorem Ssys.resetRegs_some {y : Ssys} {c : BoardClass} (h : boardClass y.board.did0 = some c) (p : Params) :
    y.resetRegs p =
      some
        (Ssys.recompute p
          { y with
            rccControl := Config.rccReset
            rccConfig := 0#32
            rcc2 := c.rcc2Reset
            words := CatchallWords.reset }) := by
  unfold Ssys.resetRegs; rw [h]

theorem Ssys.resetRegs_none {y : Ssys} (h : boardClass y.board.did0 = none) (p : Params) : y.resetRegs p = none := by
  unfold Ssys.resetRegs; rw [h]

theorem resetSsys_eq_next (s t : State) :
    resetSsys s = .next t ↔
      (∃ y, s.ssys.resetRegs s.params = some y ∧ t = { s with ssys := y }) ∨
      (s.ssys.resetRegs s.params = none ∧ t = { s with faulted := some .ssysBoardClass }) := by
  unfold resetSsys
  cases s.ssys.resetRegs s.params <;> simp [@eq_comm State]

/-! ## I2C -/

/-- While another master holds the bus an acquire fails and draws nothing (42_i2c.md R220). -/
theorem I2cBus.acquire_of_other {b : I2cBus} (h : b.holder = .other) (a : BitVec 7) (r : Bool) :
    b.acquire a r = { ok := false, bus := { b with calls := b.calls ++ [.acquire a r false] } } := by
  unfold I2cBus.acquire; rw [h]

/-- Otherwise its answer is the draw, and the bus is taken where that is true (42_i2c.md R220). -/
theorem I2cBus.acquire_of_not_other {b : I2cBus} (h : b.holder ≠ .other) (a : BitVec 7) (r : Bool) :
    b.acquire a r =
      { ok := b.drawAcquire
        bus :=
          { b with
            holder := if b.drawAcquire then .self else b.holder
            nextAcquire := none
            draws := b.draws + 1
            calls := b.calls ++ [.acquire a r b.drawAcquire] } } := by
  unfold I2cBus.acquire
  cases hb : b.holder with
  | other => exact absurd hb h
  | none => rfl
  | self => rfl

/-- A command with MFE clear does nothing (42_i2c.md R241). -/
theorem I2cSide.command_disabled {x : I2cSide} (h : x.regs.masterConfig.getLsbD 4 = false) (v : Word) :
    x.command v = x := by
  unfold I2cSide.command mfe bit; rw [h]; rfl

/-- A command with MFE set is its START part, then, on a bus that is held, its RUN and STOP parts with ERROR cleared,
and otherwise ERROR set (42_i2c.md R241). -/
theorem I2cSide.command_enabled {x : I2cSide} (h : x.regs.masterConfig.getLsbD 4 = true) (v : Word) :
    x.command v =
      if (x.start v).held then
        (({ x.start v with
            regs :=
              { (x.start v).regs with
                controlStatus := setError (x.start v).regs.controlStatus false } } : I2cSide).run v).stop v
      else
        { x.start v with
          regs := { (x.start v).regs with controlStatus := setError (x.start v).regs.controlStatus true } } := by
  unfold I2cSide.command mfe bit; rw [h]; rfl

/-! ## ADC -/

theorem Adc.fifoRead_of_empty {a : Adc} {n : Fin 4} (h : fifoEmpty a.fifo[n].state = true) (p : Params) :
    a.fifoRead p n = { a with underflow := setBit a.underflow n true } := by
  unfold Adc.fifoRead; rw [if_pos h]

theorem Adc.fifoRead_of_not_empty {a : Adc} {n : Fin 4} (h : fifoEmpty a.fifo[n].state = false) (p : Params) :
    a.fifoRead p n =
      { a with
        fifo := a.fifo.set n { a.fifo[n] with state := popWord p a.fifo[n].state } } := by
  unfold Adc.fifoRead; rw [h]; rfl

theorem Adc.fifoWrite_of_full {a : Adc} {n : Fin 4} (h : fifoFull a.fifo[n].state = true) (p : Params)
    (x : Word) : a.fifoWrite p n x = { a with overflow := setBit a.overflow n true } := by
  unfold Adc.fifoWrite; rw [if_pos h]

theorem Adc.fifoWrite_of_not_full {a : Adc} {n : Fin 4} (h : fifoFull a.fifo[n].state = false) (p : Params)
    (x : Word) :
    a.fifoWrite p n x =
      { a with
        fifo :=
          a.fifo.set n
            { state := pushWord p a.fifo[n].state
              data := a.fifo[n].data.set (fifoHead a.fifo[n].state).toNat x (fifoHead a.fifo[n].state).isLt } } := by
  unfold Adc.fifoWrite; rw [h]; rfl

/-- A sequencer that takes no part in a trigger is left as it is (43_adc.md R263). -/
theorem Adc.sampleInto_of_not_triggered {p : Params} {a : Adc} {n : Fin 4} (h : a.triggered p n = false) :
    a.sampleInto p n = a := by
  unfold Adc.sampleInto; rw [h]; rfl

theorem Adc.sampleInto_of_triggered {p : Params} {a : Adc} {n : Fin 4} (h : a.triggered p n = true) :
    a.sampleInto p n =
      { ({ a with noise := nextNoise p a.noise } : Adc).fifoWrite p n (sampleOf (nextNoise p a.noise)) with
        rawInterruptStatus := setBit a.rawInterruptStatus n true } := by
  unfold Adc.sampleInto
  rw [if_pos h]
  have : ∀ (b : Adc) (x : Word), (b.fifoWrite p n x).rawInterruptStatus = b.rawInterruptStatus := by
    intro b x
    unfold Adc.fifoWrite
    split <;> rfl
  simp only [this]

/-- What holds of the ADC through every sequencer's turn holds through a trigger. -/
theorem Adc.trigger_of_sampleInto {P : Adc → Prop} {p : Params} (h : ∀ (a : Adc) (n : Fin 4), P a → P (a.sampleInto p n))
    (a : Adc) (ha : P a) : P (a.trigger p) :=
  h _ 3 (h _ 2 (h _ 1 (h _ 0 ha)))

/-- What holds of the ADC through a trigger holds through a pulse. -/
theorem pulseAdc_of_trigger {P : Adc → Prop} {p : Params} (h : ∀ a : Adc, P a → P (a.trigger p)) (n : Nat) (a : Adc)
    (ha : P a) : P (pulseAdc p n a) := by
  have hk : ∀ (k : Nat) (b : Adc), P b → P (b.triggers p k) := by
    intro k
    induction k with
    | zero => exact fun b hb => hb
    | succ k ih => exact fun b hb => ih _ (h b hb)
  unfold pulseAdc
  split
  · exact hk _ _ ha
  · exact ha

/-! ## Reset, save and restore -/

theorem resetGptm_eq_next (n : Nat) (s t : State) :
    resetGptm n s = .next t ↔ n < s.gptm.length ∧ t = s.setGptm n Gptm.reset := by
  rw [resetGptm, writeGptm_eq_next]
  constructor
  · rintro ⟨g, hg, rfl⟩
    exact ⟨(List.getElem?_eq_some_iff.mp hg).1, rfl⟩
  · rintro ⟨h, rfl⟩
    exact ⟨_, List.getElem?_eq_getElem h, rfl⟩

theorem withSnapshot_eq_next {α : Type} (l : List α) (k : Word) (f : α → Result) (t : State) :
    withSnapshot l k f = .next t ↔ ∃ x, l[k.toNat]? = some x ∧ f x = .next t := by
  unfold withSnapshot
  cases l[k.toNat]? <;> simp

theorem withSnapshot_none {α : Type} {l : List α} {k : Word} (h : l.length ≤ k.toNat) (f : α → Result) :
    withSnapshot l k f = .refused (.noSuchSnapshot k.toNat) := by
  unfold withSnapshot; rw [List.getElem?_eq_none h]

/-- A restored channel is the saved one (70_reset_and_hazards.md R366). -/
theorem Gptm.restoreChannel_self (g : Gptm) (c : Channel) : Gptm.restoreChannel g c g = g := by
  unfold Gptm.restoreChannel
  obtain ⟨_, _, _, _, _, _, _, _, _, _, ⟨_, _⟩, ⟨ra, rb⟩⟩ := g
  cases c <;> cases ra <;> cases rb <;> rfl

theorem restoreGptm_eq_next (n : Nat) (k : Word) (s t : State) :
    restoreGptm n k s = .next t ↔
      n < s.gptm.length ∧ ∃ g, s.saved.gptm[k.toNat]? = some g ∧ t = s.setGptm n g := by
  simp only [restoreGptm, withGptm_eq_next, withSnapshot_eq_next, Gptm.restoreChannel_self]
  constructor
  · rintro ⟨g, hg, x, hx, h⟩
    injection h with h
    exact ⟨(List.getElem?_eq_some_iff.mp hg).1, x, hx, h.symm⟩
  · rintro ⟨h, x, hx, rfl⟩
    exact ⟨_, List.getElem?_eq_getElem h, x, hx, rfl⟩

/-! ## Accesses, events and the step -/

theorem hostStep_eq_next (k : State → Result) (s t : State) :
    hostStep k s = .next t ↔ s.hostBlocked = false ∧ k s = .next t := by
  unfold hostStep
  cases s.hostBlocked <;> simp

/-- What the access checks leave: a fault, or the decoded operation (20_memory.md R72). -/
theorem busAccess_eq_next {d : Dir} {b : Block} {n off size : Nat} {v : Word} {s t : State}
    (h : busAccess d b n off size v s = .next t) :
    (∃ c, t = { s with faulted := some c }) ∨
      (off < s.params.regionSize ∧ off < 0x1000 ∧ exec (decodeAccess b d (BitVec.ofNat 12 off) n v) s = .next t) := by
  unfold busAccess at h
  split at h
  · cases h
  · split at h
    · exact .inl ⟨_, (takeFault_eq_next ..).mp h⟩
    · split at h
      · exact .inl ⟨_, (takeFault_eq_next ..).mp h⟩
      · rename_i hlt
        rw [runRequest, decode_accessWord] at h
        exact .inr ⟨by omega, by omega, h⟩

/-- An event is the decoded operation (30_encoding.md R97). -/
theorem runEvent_eq_next {e : BitVec 15} {n : Nat} {k : Word} {s t : State} (h : runEvent e n k s = .next t) :
    ∃ i, decode ⟨1#1 ++ e, n, k⟩ = .ok i ∧ exec i s = .next t := by
  unfold runEvent at h
  split at h
  · cases h
  split at h
  · cases h
  · unfold runRequest at h
    split at h
    · exact ⟨_, ‹_›, h⟩
    · cases h

theorem advanceTo_eq_next (u : Nat) (s t : State) :
    advanceTo u s = .next t ↔ s.now ≤ u ∧ s.mayAdvanceTo u = true ∧ t = { s with now := u } := by
  unfold advanceTo
  by_cases h : u < s.now
  · simp [h, Nat.not_le_of_lt h]
  · cases hm : s.mayAdvanceTo u <;> simp [h, Nat.le_of_not_lt h, @eq_comm State]

theorem busStep_eq_next (x y : BusHolder) (s t : State) :
    busStep x y s = .next t ↔ s.bus.holder = x ∧ t = { s with bus := { s.bus with holder := y } } := by
  unfold busStep
  by_cases h : s.bus.holder = x <;> simp [h, @eq_comm State]

/-- A step with no fault recorded performs the stimulus at the head (20_memory.md R82). -/
theorem step_of_pending {s : State} {x : Stimulus} {rest : List Stimulus} (hf : s.faulted = none)
    (hp : s.pending = x :: rest) : step s = perform x { s with pending := rest } := by
  unfold step
  split
  · rename_i h; rw [hf] at h; cases h
  · split
    · rename_i h; rw [hp] at h; cases h
    · rename_i h; rw [hp] at h; cases h; rfl

/-- One step performs the next stimulus, and only while no fault is recorded (20_memory.md R82, R87). -/
theorem step_eq_next (s t : State) :
    step s = .next t ↔
      s.faulted = none ∧ ∃ x rest, s.pending = x :: rest ∧ perform x { s with pending := rest } = .next t := by
  unfold step
  cases s.faulted with
  | some c => simp
  | none => cases s.pending <;> simp

end Sys2Proof.Machine
end

