-- ==== Sys2Proof/Laws/PerInstr.lean ====
section
/-! SUPPORT. The statement made of every operation by itself: the word it encodes to lies in its own row of
spec/opcode_table.json, whose mask and match are written out here from that table. -/

namespace Sys2Proof.Laws.TableRow

/-- The word `w` has, under the mask of a row of the opcode table, that row's match. -/
def InRow (mask pattern w : BitVec 16) : Prop := w &&& mask = pattern

/-- The mask and match of an operation's row in spec/opcode_table.json. -/
def row (i : Instr) : BitVec 16 × BitVec 16 :=
  match i with
  | .gptmRCfg _ => (0xFFFF#16, 0x0000#16)
  | .gptmRTamr _ => (0xFFFF#16, 0x0004#16)
  | .gptmRTbmr _ => (0xFFFF#16, 0x0008#16)
  | .gptmRCtl _ => (0xFFFF#16, 0x000C#16)
  | .gptmRImr _ => (0xFFFF#16, 0x0018#16)
  | .gptmRRis _ => (0xFFFF#16, 0x001C#16)
  | .gptmRMis _ => (0xFFFF#16, 0x0020#16)
  | .gptmRIcr _ => (0xFFFF#16, 0x0024#16)
  | .gptmRTailr _ => (0xFFFF#16, 0x0028#16)
  | .gptmRTbilr _ => (0xFFFF#16, 0x002C#16)
  | .gptmRTamatchr _ => (0xFFFF#16, 0x0030#16)
  | .gptmRTbmatchr _ => (0xFFFF#16, 0x0034#16)
  | .gptmRTapr _ => (0xFFFF#16, 0x0038#16)
  | .gptmRTbpr _ => (0xFFFF#16, 0x003C#16)
  | .gptmRTapmr _ => (0xFFFF#16, 0x0040#16)
  | .gptmRTbpmr _ => (0xFFFF#16, 0x0044#16)
  | .gptmRTar _ => (0xFFFF#16, 0x0048#16)
  | .gptmRTbr _ => (0xFFFF#16, 0x004C#16)
  | .gptmWCfg _ _ => (0xFFFF#16, 0x1000#16)
  | .gptmWTamr _ _ => (0xFFFF#16, 0x1004#16)
  | .gptmWTbmr _ _ => (0xFFFF#16, 0x1008#16)
  | .gptmWCtl _ _ => (0xFFFF#16, 0x100C#16)
  | .gptmWImr _ _ => (0xFFFF#16, 0x1018#16)
  | .gptmWRis _ _ => (0xFFFF#16, 0x101C#16)
  | .gptmWMis _ _ => (0xFFFF#16, 0x1020#16)
  | .gptmWIcr _ _ => (0xFFFF#16, 0x1024#16)
  | .gptmWTailr _ _ => (0xFFFF#16, 0x1028#16)
  | .gptmWTbilr _ _ => (0xFFFF#16, 0x102C#16)
  | .gptmWTamatchr _ _ => (0xFFFF#16, 0x1030#16)
  | .gptmWTbmatchr _ _ => (0xFFFF#16, 0x1034#16)
  | .gptmWTapr _ _ => (0xFFFF#16, 0x1038#16)
  | .gptmWTbpr _ _ => (0xFFFF#16, 0x103C#16)
  | .gptmWTapmr _ _ => (0xFFFF#16, 0x1040#16)
  | .gptmWTbpmr _ _ => (0xFFFF#16, 0x1044#16)
  | .gptmWTar _ _ => (0xFFFF#16, 0x1048#16)
  | .gptmWTbr _ _ => (0xFFFF#16, 0x104C#16)
  | .gptmRUndef _ _ => (0xF000#16, 0x0000#16)
  | .gptmWUndef _ _ _ => (0xF000#16, 0x1000#16)
  | .ssysRDid0 => (0xFFFF#16, 0x2000#16)
  | .ssysRDid1 => (0xFFFF#16, 0x2004#16)
  | .ssysRDc0 => (0xFFFF#16, 0x2008#16)
  | .ssysRDc1 => (0xFFFF#16, 0x2010#16)
  | .ssysRDc2 => (0xFFFF#16, 0x2014#16)
  | .ssysRDc3 => (0xFFFF#16, 0x2018#16)
  | .ssysRDc4 => (0xFFFF#16, 0x201C#16)
  | .ssysRRcc => (0xFFFF#16, 0x2060#16)
  | .ssysRClkcfg => (0xFFFF#16, 0x2068#16)
  | .ssysRRcc2 => (0xFFFF#16, 0x2070#16)
  | .ssysRCatchallPborctl => (0xFFFF#16, 0x2030#16)
  | .ssysRCatchallLdopctl => (0xFFFF#16, 0x2034#16)
  | .ssysRCatchallSrcr0 => (0xFFFF#16, 0x2040#16)
  | .ssysRCatchallSrcr1 => (0xFFFF#16, 0x2044#16)
  | .ssysRCatchallSrcr2 => (0xFFFF#16, 0x2048#16)
  | .ssysRCatchallRis => (0xFFFF#16, 0x2050#16)
  | .ssysRCatchallImc => (0xFFFF#16, 0x2054#16)
  | .ssysRCatchallMisc => (0xFFFF#16, 0x2058#16)
  | .ssysRCatchallResc => (0xFFFF#16, 0x205C#16)
  | .ssysRCatchallRcgc0 => (0xFFFF#16, 0x2100#16)
  | .ssysRCatchallRcgc1 => (0xFFFF#16, 0x2104#16)
  | .ssysRCatchallRcgc2 => (0xFFFF#16, 0x2108#16)
  | .ssysRCatchallScgc0 => (0xFFFF#16, 0x2110#16)
  | .ssysRCatchallScgc1 => (0xFFFF#16, 0x2114#16)
  | .ssysRCatchallScgc2 => (0xFFFF#16, 0x2118#16)
  | .ssysRCatchallDcgc0 => (0xFFFF#16, 0x2120#16)
  | .ssysRCatchallDcgc1 => (0xFFFF#16, 0x2124#16)
  | .ssysRCatchallDcgc2 => (0xFFFF#16, 0x2128#16)
  | .ssysRCatchallClkvclr => (0xFFFF#16, 0x2150#16)
  | .ssysRCatchallLdoarst => (0xFFFF#16, 0x2160#16)
  | .ssysRCatchallUser0 => (0xFFFF#16, 0x21E0#16)
  | .ssysRCatchallUser1 => (0xFFFF#16, 0x21E4#16)
  | .ssysWDid0 _ => (0xFFFF#16, 0x3000#16)
  | .ssysWDid1 _ => (0xFFFF#16, 0x3004#16)
  | .ssysWDc0 _ => (0xFFFF#16, 0x3008#16)
  | .ssysWDc1 _ => (0xFFFF#16, 0x3010#16)
  | .ssysWDc2 _ => (0xFFFF#16, 0x3014#16)
  | .ssysWDc3 _ => (0xFFFF#16, 0x3018#16)
  | .ssysWDc4 _ => (0xFFFF#16, 0x301C#16)
  | .ssysWRcc _ => (0xFFFF#16, 0x3060#16)
  | .ssysWClkcfg _ => (0xFFFF#16, 0x3068#16)
  | .ssysWRcc2 _ => (0xFFFF#16, 0x3070#16)
  | .ssysWCatchallPborctl _ => (0xFFFF#16, 0x3030#16)
  | .ssysWCatchallLdopctl _ => (0xFFFF#16, 0x3034#16)
  | .ssysWCatchallSrcr0 _ => (0xFFFF#16, 0x3040#16)
  | .ssysWCatchallSrcr1 _ => (0xFFFF#16, 0x3044#16)
  | .ssysWCatchallSrcr2 _ => (0xFFFF#16, 0x3048#16)
  | .ssysWCatchallRis _ => (0xFFFF#16, 0x3050#16)
  | .ssysWCatchallImc _ => (0xFFFF#16, 0x3054#16)
  | .ssysWCatchallMisc _ => (0xFFFF#16, 0x3058#16)
  | .ssysWCatchallResc _ => (0xFFFF#16, 0x305C#16)
  | .ssysWCatchallRcgc0 _ => (0xFFFF#16, 0x3100#16)
  | .ssysWCatchallRcgc1 _ => (0xFFFF#16, 0x3104#16)
  | .ssysWCatchallRcgc2 _ => (0xFFFF#16, 0x3108#16)
  | .ssysWCatchallScgc0 _ => (0xFFFF#16, 0x3110#16)
  | .ssysWCatchallScgc1 _ => (0xFFFF#16, 0x3114#16)
  | .ssysWCatchallScgc2 _ => (0xFFFF#16, 0x3118#16)
  | .ssysWCatchallDcgc0 _ => (0xFFFF#16, 0x3120#16)
  | .ssysWCatchallDcgc1 _ => (0xFFFF#16, 0x3124#16)
  | .ssysWCatchallDcgc2 _ => (0xFFFF#16, 0x3128#16)
  | .ssysWCatchallClkvclr _ => (0xFFFF#16, 0x3150#16)
  | .ssysWCatchallLdoarst _ => (0xFFFF#16, 0x3160#16)
  | .ssysWCatchallUser0 _ => (0xFFFF#16, 0x31E0#16)
  | .ssysWCatchallUser1 _ => (0xFFFF#16, 0x31E4#16)
  | .ssysRUndef _ => (0xF000#16, 0x2000#16)
  | .ssysWUndef _ _ => (0xF000#16, 0x3000#16)
  | .i2cRMsa => (0xFFFF#16, 0x4000#16)
  | .i2cRMcs => (0xFFFF#16, 0x4004#16)
  | .i2cRMdr => (0xFFFF#16, 0x4008#16)
  | .i2cRMtpr => (0xFFFF#16, 0x400C#16)
  | .i2cRMimr => (0xFFFF#16, 0x4010#16)
  | .i2cRMris => (0xFFFF#16, 0x4014#16)
  | .i2cRMmis => (0xFFFF#16, 0x4018#16)
  | .i2cRMicr => (0xFFFF#16, 0x401C#16)
  | .i2cRMcr => (0xFFFF#16, 0x4020#16)
  | .i2cWMsa _ => (0xFFFF#16, 0x5000#16)
  | .i2cWMcs _ => (0xFFFF#16, 0x5004#16)
  | .i2cWMdr _ => (0xFFFF#16, 0x5008#16)
  | .i2cWMtpr _ => (0xFFFF#16, 0x500C#16)
  | .i2cWMimr _ => (0xFFFF#16, 0x5010#16)
  | .i2cWMris _ => (0xFFFF#16, 0x5014#16)
  | .i2cWMmis _ => (0xFFFF#16, 0x5018#16)
  | .i2cWMicr _ => (0xFFFF#16, 0x501C#16)
  | .i2cWMcr _ => (0xFFFF#16, 0x5020#16)
  | .i2cRUndef _ => (0xF000#16, 0x4000#16)
  | .i2cWUndef _ _ => (0xF000#16, 0x5000#16)
  | .adcRActss => (0xFFFF#16, 0x6000#16)
  | .adcRRis => (0xFFFF#16, 0x6004#16)
  | .adcRIm => (0xFFFF#16, 0x6008#16)
  | .adcRIsc => (0xFFFF#16, 0x600C#16)
  | .adcROstat => (0xFFFF#16, 0x6010#16)
  | .adcREmux => (0xFFFF#16, 0x6014#16)
  | .adcRUstat => (0xFFFF#16, 0x6018#16)
  | .adcRSspri => (0xFFFF#16, 0x6020#16)
  | .adcRPssi => (0xFFFF#16, 0x6028#16)
  | .adcRSac => (0xFFFF#16, 0x6030#16)
  | .adcRSsmux0 => (0xFFFF#16, 0x6040#16)
  | .adcRSsctl0 => (0xFFFF#16, 0x6044#16)
  | .adcRSsfifo0 => (0xFFFF#16, 0x6048#16)
  | .adcRSsfstat0 => (0xFFFF#16, 0x604C#16)
  | .adcRSsmux1 => (0xFFFF#16, 0x6060#16)
  | .adcRSsctl1 => (0xFFFF#16, 0x6064#16)
  | .adcRSsfifo1 => (0xFFFF#16, 0x6068#16)
  | .adcRSsfstat1 => (0xFFFF#16, 0x606C#16)
  | .adcRSsmux2 => (0xFFFF#16, 0x6080#16)
  | .adcRSsctl2 => (0xFFFF#16, 0x6084#16)
  | .adcRSsfifo2 => (0xFFFF#16, 0x6088#16)
  | .adcRSsfstat2 => (0xFFFF#16, 0x608C#16)
  | .adcRSsmux3 => (0xFFFF#16, 0x60A0#16)
  | .adcRSsctl3 => (0xFFFF#16, 0x60A4#16)
  | .adcRSsfifo3 => (0xFFFF#16, 0x60A8#16)
  | .adcRSsfstat3 => (0xFFFF#16, 0x60AC#16)
  | .adcWActss _ => (0xFFFF#16, 0x7000#16)
  | .adcWRis _ => (0xFFFF#16, 0x7004#16)
  | .adcWIm _ => (0xFFFF#16, 0x7008#16)
  | .adcWIsc _ => (0xFFFF#16, 0x700C#16)
  | .adcWOstat _ => (0xFFFF#16, 0x7010#16)
  | .adcWEmux _ => (0xFFFF#16, 0x7014#16)
  | .adcWUstat _ => (0xFFFF#16, 0x7018#16)
  | .adcWSspri _ => (0xFFFF#16, 0x7020#16)
  | .adcWPssi _ => (0xFFFF#16, 0x7028#16)
  | .adcWSac _ => (0xFFFF#16, 0x7030#16)
  | .adcWSsmux0 _ => (0xFFFF#16, 0x7040#16)
  | .adcWSsctl0 _ => (0xFFFF#16, 0x7044#16)
  | .adcWSsfifo0 _ => (0xFFFF#16, 0x7048#16)
  | .adcWSsfstat0 _ => (0xFFFF#16, 0x704C#16)
  | .adcWSsmux1 _ => (0xFFFF#16, 0x7060#16)
  | .adcWSsctl1 _ => (0xFFFF#16, 0x7064#16)
  | .adcWSsfifo1 _ => (0xFFFF#16, 0x7068#16)
  | .adcWSsfstat1 _ => (0xFFFF#16, 0x706C#16)
  | .adcWSsmux2 _ => (0xFFFF#16, 0x7080#16)
  | .adcWSsctl2 _ => (0xFFFF#16, 0x7084#16)
  | .adcWSsfifo2 _ => (0xFFFF#16, 0x7088#16)
  | .adcWSsfstat2 _ => (0xFFFF#16, 0x708C#16)
  | .adcWSsmux3 _ => (0xFFFF#16, 0x70A0#16)
  | .adcWSsctl3 _ => (0xFFFF#16, 0x70A4#16)
  | .adcWSsfifo3 _ => (0xFFFF#16, 0x70A8#16)
  | .adcWSsfstat3 _ => (0xFFFF#16, 0x70AC#16)
  | .adcRUndef _ => (0xF000#16, 0x6000#16)
  | .adcWUndef _ _ => (0xF000#16, 0x7000#16)
  | .gptmEvFireA _ => (0xFFFF#16, 0x8000#16)
  | .gptmEvFireB _ => (0xFFFF#16, 0x8001#16)
  | .gptmEvRestore _ _ => (0xFFFF#16, 0x8FFE#16)
  | .gptmEvReset _ => (0xFFFF#16, 0x8FFF#16)
  | .ssysEvRestore _ => (0xFFFF#16, 0xAFFE#16)
  | .ssysEvReset => (0xFFFF#16, 0xAFFF#16)
  | .i2cEvRestore _ => (0xFFFF#16, 0xCFFE#16)
  | .i2cEvReset => (0xFFFF#16, 0xCFFF#16)
  | .adcEvTrigger => (0xFFFF#16, 0xE000#16)
  | .adcEvRestore _ => (0xFFFF#16, 0xEFFE#16)
  | .adcEvReset => (0xFFFF#16, 0xEFFF#16)

/-- A well-formed operation encodes to a word of its row. -/
def Statement (i : Instr) : Prop :=
  i.wellFormed = true → InRow (row i).1 (row i).2 (encode i).word

/-- A word that is its row's match lies in the row. -/
theorem inRow_word (pattern w : BitVec 16) (h : w = pattern) : InRow 0xFFFF#16 pattern w := by
  subst h
  exact BitVec.and_allOnes

/-- An access word keeps its upper four bits under the mask of an undefined-offset row. -/
theorem inRow_undef (b : Block) (d : Dir) (off : BitVec 12) :
    InRow 0xF000#16 (accessWord b d 0#12) (accessWord b d off) := by
  unfold InRow
  rw [accessWord_eq, accessWord_eq]
  exact append_and_upper _ _

theorem gptmRCfg (n : Nat) : Statement (.gptmRCfg n) := fun _ => inRow_word 0x0000#16 (accessWord .gptm .read 0x000#12) (by decide)

theorem gptmRTamr (n : Nat) : Statement (.gptmRTamr n) := fun _ => inRow_word 0x0004#16 (accessWord .gptm .read 0x004#12) (by decide)

theorem gptmRTbmr (n : Nat) : Statement (.gptmRTbmr n) := fun _ => inRow_word 0x0008#16 (accessWord .gptm .read 0x008#12) (by decide)

theorem gptmRCtl (n : Nat) : Statement (.gptmRCtl n) := fun _ => inRow_word 0x000C#16 (accessWord .gptm .read 0x00C#12) (by decide)

theorem gptmRImr (n : Nat) : Statement (.gptmRImr n) := fun _ => inRow_word 0x0018#16 (accessWord .gptm .read 0x018#12) (by decide)

theorem gptmRRis (n : Nat) : Statement (.gptmRRis n) := fun _ => inRow_word 0x001C#16 (accessWord .gptm .read 0x01C#12) (by decide)

theorem gptmRMis (n : Nat) : Statement (.gptmRMis n) := fun _ => inRow_word 0x0020#16 (accessWord .gptm .read 0x020#12) (by decide)

theorem gptmRIcr (n : Nat) : Statement (.gptmRIcr n) := fun _ => inRow_word 0x0024#16 (accessWord .gptm .read 0x024#12) (by decide)

theorem gptmRTailr (n : Nat) : Statement (.gptmRTailr n) := fun _ => inRow_word 0x0028#16 (accessWord .gptm .read 0x028#12) (by decide)

theorem gptmRTbilr (n : Nat) : Statement (.gptmRTbilr n) := fun _ => inRow_word 0x002C#16 (accessWord .gptm .read 0x02C#12) (by decide)

theorem gptmRTamatchr (n : Nat) : Statement (.gptmRTamatchr n) := fun _ => inRow_word 0x0030#16 (accessWord .gptm .read 0x030#12) (by decide)

theorem gptmRTbmatchr (n : Nat) : Statement (.gptmRTbmatchr n) := fun _ => inRow_word 0x0034#16 (accessWord .gptm .read 0x034#12) (by decide)

theorem gptmRTapr (n : Nat) : Statement (.gptmRTapr n) := fun _ => inRow_word 0x0038#16 (accessWord .gptm .read 0x038#12) (by decide)

theorem gptmRTbpr (n : Nat) : Statement (.gptmRTbpr n) := fun _ => inRow_word 0x003C#16 (accessWord .gptm .read 0x03C#12) (by decide)

theorem gptmRTapmr (n : Nat) : Statement (.gptmRTapmr n) := fun _ => inRow_word 0x0040#16 (accessWord .gptm .read 0x040#12) (by decide)

theorem gptmRTbpmr (n : Nat) : Statement (.gptmRTbpmr n) := fun _ => inRow_word 0x0044#16 (accessWord .gptm .read 0x044#12) (by decide)

theorem gptmRTar (n : Nat) : Statement (.gptmRTar n) := fun _ => inRow_word 0x0048#16 (accessWord .gptm .read 0x048#12) (by decide)

theorem gptmRTbr (n : Nat) : Statement (.gptmRTbr n) := fun _ => inRow_word 0x004C#16 (accessWord .gptm .read 0x04C#12) (by decide)

theorem gptmWCfg (n : Nat) (v : Word) : Statement (.gptmWCfg n v) := fun _ => inRow_word 0x1000#16 (accessWord .gptm .write 0x000#12) (by decide)

theorem gptmWTamr (n : Nat) (v : Word) : Statement (.gptmWTamr n v) := fun _ => inRow_word 0x1004#16 (accessWord .gptm .write 0x004#12) (by decide)

theorem gptmWTbmr (n : Nat) (v : Word) : Statement (.gptmWTbmr n v) := fun _ => inRow_word 0x1008#16 (accessWord .gptm .write 0x008#12) (by decide)

theorem gptmWCtl (n : Nat) (v : Word) : Statement (.gptmWCtl n v) := fun _ => inRow_word 0x100C#16 (accessWord .gptm .write 0x00C#12) (by decide)

theorem gptmWImr (n : Nat) (v : Word) : Statement (.gptmWImr n v) := fun _ => inRow_word 0x1018#16 (accessWord .gptm .write 0x018#12) (by decide)

theorem gptmWRis (n : Nat) (v : Word) : Statement (.gptmWRis n v) := fun _ => inRow_word 0x101C#16 (accessWord .gptm .write 0x01C#12) (by decide)

theorem gptmWMis (n : Nat) (v : Word) : Statement (.gptmWMis n v) := fun _ => inRow_word 0x1020#16 (accessWord .gptm .write 0x020#12) (by decide)

theorem gptmWIcr (n : Nat) (v : Word) : Statement (.gptmWIcr n v) := fun _ => inRow_word 0x1024#16 (accessWord .gptm .write 0x024#12) (by decide)

theorem gptmWTailr (n : Nat) (v : Word) : Statement (.gptmWTailr n v) := fun _ => inRow_word 0x1028#16 (accessWord .gptm .write 0x028#12) (by decide)

theorem gptmWTbilr (n : Nat) (v : Word) : Statement (.gptmWTbilr n v) := fun _ => inRow_word 0x102C#16 (accessWord .gptm .write 0x02C#12) (by decide)

theorem gptmWTamatchr (n : Nat) (v : Word) : Statement (.gptmWTamatchr n v) := fun _ => inRow_word 0x1030#16 (accessWord .gptm .write 0x030#12) (by decide)

theorem gptmWTbmatchr (n : Nat) (v : Word) : Statement (.gptmWTbmatchr n v) := fun _ => inRow_word 0x1034#16 (accessWord .gptm .write 0x034#12) (by decide)

theorem gptmWTapr (n : Nat) (v : Word) : Statement (.gptmWTapr n v) := fun _ => inRow_word 0x1038#16 (accessWord .gptm .write 0x038#12) (by decide)

theorem gptmWTbpr (n : Nat) (v : Word) : Statement (.gptmWTbpr n v) := fun _ => inRow_word 0x103C#16 (accessWord .gptm .write 0x03C#12) (by decide)

theorem gptmWTapmr (n : Nat) (v : Word) : Statement (.gptmWTapmr n v) := fun _ => inRow_word 0x1040#16 (accessWord .gptm .write 0x040#12) (by decide)

theorem gptmWTbpmr (n : Nat) (v : Word) : Statement (.gptmWTbpmr n v) := fun _ => inRow_word 0x1044#16 (accessWord .gptm .write 0x044#12) (by decide)

theorem gptmWTar (n : Nat) (v : Word) : Statement (.gptmWTar n v) := fun _ => inRow_word 0x1048#16 (accessWord .gptm .write 0x048#12) (by decide)

theorem gptmWTbr (n : Nat) (v : Word) : Statement (.gptmWTbr n v) := fun _ => inRow_word 0x104C#16 (accessWord .gptm .write 0x04C#12) (by decide)

theorem gptmRUndef (n : Nat) (off : BitVec 12) : Statement (.gptmRUndef n off) := fun _ => inRow_undef .gptm .read off

theorem gptmWUndef (n : Nat) (off : BitVec 12) (v : Word) : Statement (.gptmWUndef n off v) := fun _ => inRow_undef .gptm .write off

theorem ssysRDid0 : Statement .ssysRDid0 := fun _ => inRow_word 0x2000#16 (accessWord .ssys .read 0x000#12) (by decide)

theorem ssysRDid1 : Statement .ssysRDid1 := fun _ => inRow_word 0x2004#16 (accessWord .ssys .read 0x004#12) (by decide)

theorem ssysRDc0 : Statement .ssysRDc0 := fun _ => inRow_word 0x2008#16 (accessWord .ssys .read 0x008#12) (by decide)

theorem ssysRDc1 : Statement .ssysRDc1 := fun _ => inRow_word 0x2010#16 (accessWord .ssys .read 0x010#12) (by decide)

theorem ssysRDc2 : Statement .ssysRDc2 := fun _ => inRow_word 0x2014#16 (accessWord .ssys .read 0x014#12) (by decide)

theorem ssysRDc3 : Statement .ssysRDc3 := fun _ => inRow_word 0x2018#16 (accessWord .ssys .read 0x018#12) (by decide)

theorem ssysRDc4 : Statement .ssysRDc4 := fun _ => inRow_word 0x201C#16 (accessWord .ssys .read 0x01C#12) (by decide)

theorem ssysRRcc : Statement .ssysRRcc := fun _ => inRow_word 0x2060#16 (accessWord .ssys .read 0x060#12) (by decide)

theorem ssysRClkcfg : Statement .ssysRClkcfg := fun _ => inRow_word 0x2068#16 (accessWord .ssys .read 0x068#12) (by decide)

theorem ssysRRcc2 : Statement .ssysRRcc2 := fun _ => inRow_word 0x2070#16 (accessWord .ssys .read 0x070#12) (by decide)

theorem ssysRCatchallPborctl : Statement .ssysRCatchallPborctl := fun _ => inRow_word 0x2030#16 (accessWord .ssys .read 0x030#12) (by decide)

theorem ssysRCatchallLdopctl : Statement .ssysRCatchallLdopctl := fun _ => inRow_word 0x2034#16 (accessWord .ssys .read 0x034#12) (by decide)

theorem ssysRCatchallSrcr0 : Statement .ssysRCatchallSrcr0 := fun _ => inRow_word 0x2040#16 (accessWord .ssys .read 0x040#12) (by decide)

theorem ssysRCatchallSrcr1 : Statement .ssysRCatchallSrcr1 := fun _ => inRow_word 0x2044#16 (accessWord .ssys .read 0x044#12) (by decide)

theorem ssysRCatchallSrcr2 : Statement .ssysRCatchallSrcr2 := fun _ => inRow_word 0x2048#16 (accessWord .ssys .read 0x048#12) (by decide)

theorem ssysRCatchallRis : Statement .ssysRCatchallRis := fun _ => inRow_word 0x2050#16 (accessWord .ssys .read 0x050#12) (by decide)

theorem ssysRCatchallImc : Statement .ssysRCatchallImc := fun _ => inRow_word 0x2054#16 (accessWord .ssys .read 0x054#12) (by decide)

theorem ssysRCatchallMisc : Statement .ssysRCatchallMisc := fun _ => inRow_word 0x2058#16 (accessWord .ssys .read 0x058#12) (by decide)

theorem ssysRCatchallResc : Statement .ssysRCatchallResc := fun _ => inRow_word 0x205C#16 (accessWord .ssys .read 0x05C#12) (by decide)

theorem ssysRCatchallRcgc0 : Statement .ssysRCatchallRcgc0 := fun _ => inRow_word 0x2100#16 (accessWord .ssys .read 0x100#12) (by decide)

theorem ssysRCatchallRcgc1 : Statement .ssysRCatchallRcgc1 := fun _ => inRow_word 0x2104#16 (accessWord .ssys .read 0x104#12) (by decide)

theorem ssysRCatchallRcgc2 : Statement .ssysRCatchallRcgc2 := fun _ => inRow_word 0x2108#16 (accessWord .ssys .read 0x108#12) (by decide)

theorem ssysRCatchallScgc0 : Statement .ssysRCatchallScgc0 := fun _ => inRow_word 0x2110#16 (accessWord .ssys .read 0x110#12) (by decide)

theorem ssysRCatchallScgc1 : Statement .ssysRCatchallScgc1 := fun _ => inRow_word 0x2114#16 (accessWord .ssys .read 0x114#12) (by decide)

theorem ssysRCatchallScgc2 : Statement .ssysRCatchallScgc2 := fun _ => inRow_word 0x2118#16 (accessWord .ssys .read 0x118#12) (by decide)

theorem ssysRCatchallDcgc0 : Statement .ssysRCatchallDcgc0 := fun _ => inRow_word 0x2120#16 (accessWord .ssys .read 0x120#12) (by decide)

theorem ssysRCatchallDcgc1 : Statement .ssysRCatchallDcgc1 := fun _ => inRow_word 0x2124#16 (accessWord .ssys .read 0x124#12) (by decide)

theorem ssysRCatchallDcgc2 : Statement .ssysRCatchallDcgc2 := fun _ => inRow_word 0x2128#16 (accessWord .ssys .read 0x128#12) (by decide)

theorem ssysRCatchallClkvclr : Statement .ssysRCatchallClkvclr := fun _ => inRow_word 0x2150#16 (accessWord .ssys .read 0x150#12) (by decide)

theorem ssysRCatchallLdoarst : Statement .ssysRCatchallLdoarst := fun _ => inRow_word 0x2160#16 (accessWord .ssys .read 0x160#12) (by decide)

theorem ssysRCatchallUser0 : Statement .ssysRCatchallUser0 := fun _ => inRow_word 0x21E0#16 (accessWord .ssys .read 0x1E0#12) (by decide)

theorem ssysRCatchallUser1 : Statement .ssysRCatchallUser1 := fun _ => inRow_word 0x21E4#16 (accessWord .ssys .read 0x1E4#12) (by decide)

theorem ssysWDid0 (v : Word) : Statement (.ssysWDid0 v) := fun _ => inRow_word 0x3000#16 (accessWord .ssys .write 0x000#12) (by decide)

theorem ssysWDid1 (v : Word) : Statement (.ssysWDid1 v) := fun _ => inRow_word 0x3004#16 (accessWord .ssys .write 0x004#12) (by decide)

theorem ssysWDc0 (v : Word) : Statement (.ssysWDc0 v) := fun _ => inRow_word 0x3008#16 (accessWord .ssys .write 0x008#12) (by decide)

theorem ssysWDc1 (v : Word) : Statement (.ssysWDc1 v) := fun _ => inRow_word 0x3010#16 (accessWord .ssys .write 0x010#12) (by decide)

theorem ssysWDc2 (v : Word) : Statement (.ssysWDc2 v) := fun _ => inRow_word 0x3014#16 (accessWord .ssys .write 0x014#12) (by decide)

theorem ssysWDc3 (v : Word) : Statement (.ssysWDc3 v) := fun _ => inRow_word 0x3018#16 (accessWord .ssys .write 0x018#12) (by decide)

theorem ssysWDc4 (v : Word) : Statement (.ssysWDc4 v) := fun _ => inRow_word 0x301C#16 (accessWord .ssys .write 0x01C#12) (by decide)

theorem ssysWRcc (v : Word) : Statement (.ssysWRcc v) := fun _ => inRow_word 0x3060#16 (accessWord .ssys .write 0x060#12) (by decide)

theorem ssysWClkcfg (v : Word) : Statement (.ssysWClkcfg v) := fun _ => inRow_word 0x3068#16 (accessWord .ssys .write 0x068#12) (by decide)

theorem ssysWRcc2 (v : Word) : Statement (.ssysWRcc2 v) := fun _ => inRow_word 0x3070#16 (accessWord .ssys .write 0x070#12) (by decide)

theorem ssysWCatchallPborctl (v : Word) : Statement (.ssysWCatchallPborctl v) := fun _ => inRow_word 0x3030#16 (accessWord .ssys .write 0x030#12) (by decide)

theorem ssysWCatchallLdopctl (v : Word) : Statement (.ssysWCatchallLdopctl v) := fun _ => inRow_word 0x3034#16 (accessWord .ssys .write 0x034#12) (by decide)

theorem ssysWCatchallSrcr0 (v : Word) : Statement (.ssysWCatchallSrcr0 v) := fun _ => inRow_word 0x3040#16 (accessWord .ssys .write 0x040#12) (by decide)

theorem ssysWCatchallSrcr1 (v : Word) : Statement (.ssysWCatchallSrcr1 v) := fun _ => inRow_word 0x3044#16 (accessWord .ssys .write 0x044#12) (by decide)

theorem ssysWCatchallSrcr2 (v : Word) : Statement (.ssysWCatchallSrcr2 v) := fun _ => inRow_word 0x3048#16 (accessWord .ssys .write 0x048#12) (by decide)

theorem ssysWCatchallRis (v : Word) : Statement (.ssysWCatchallRis v) := fun _ => inRow_word 0x3050#16 (accessWord .ssys .write 0x050#12) (by decide)

theorem ssysWCatchallImc (v : Word) : Statement (.ssysWCatchallImc v) := fun _ => inRow_word 0x3054#16 (accessWord .ssys .write 0x054#12) (by decide)

theorem ssysWCatchallMisc (v : Word) : Statement (.ssysWCatchallMisc v) := fun _ => inRow_word 0x3058#16 (accessWord .ssys .write 0x058#12) (by decide)

theorem ssysWCatchallResc (v : Word) : Statement (.ssysWCatchallResc v) := fun _ => inRow_word 0x305C#16 (accessWord .ssys .write 0x05C#12) (by decide)

theorem ssysWCatchallRcgc0 (v : Word) : Statement (.ssysWCatchallRcgc0 v) := fun _ => inRow_word 0x3100#16 (accessWord .ssys .write 0x100#12) (by decide)

theorem ssysWCatchallRcgc1 (v : Word) : Statement (.ssysWCatchallRcgc1 v) := fun _ => inRow_word 0x3104#16 (accessWord .ssys .write 0x104#12) (by decide)

theorem ssysWCatchallRcgc2 (v : Word) : Statement (.ssysWCatchallRcgc2 v) := fun _ => inRow_word 0x3108#16 (accessWord .ssys .write 0x108#12) (by decide)

theorem ssysWCatchallScgc0 (v : Word) : Statement (.ssysWCatchallScgc0 v) := fun _ => inRow_word 0x3110#16 (accessWord .ssys .write 0x110#12) (by decide)

theorem ssysWCatchallScgc1 (v : Word) : Statement (.ssysWCatchallScgc1 v) := fun _ => inRow_word 0x3114#16 (accessWord .ssys .write 0x114#12) (by decide)

theorem ssysWCatchallScgc2 (v : Word) : Statement (.ssysWCatchallScgc2 v) := fun _ => inRow_word 0x3118#16 (accessWord .ssys .write 0x118#12) (by decide)

theorem ssysWCatchallDcgc0 (v : Word) : Statement (.ssysWCatchallDcgc0 v) := fun _ => inRow_word 0x3120#16 (accessWord .ssys .write 0x120#12) (by decide)

theorem ssysWCatchallDcgc1 (v : Word) : Statement (.ssysWCatchallDcgc1 v) := fun _ => inRow_word 0x3124#16 (accessWord .ssys .write 0x124#12) (by decide)

theorem ssysWCatchallDcgc2 (v : Word) : Statement (.ssysWCatchallDcgc2 v) := fun _ => inRow_word 0x3128#16 (accessWord .ssys .write 0x128#12) (by decide)

theorem ssysWCatchallClkvclr (v : Word) : Statement (.ssysWCatchallClkvclr v) := fun _ => inRow_word 0x3150#16 (accessWord .ssys .write 0x150#12) (by decide)

theorem ssysWCatchallLdoarst (v : Word) : Statement (.ssysWCatchallLdoarst v) := fun _ => inRow_word 0x3160#16 (accessWord .ssys .write 0x160#12) (by decide)

theorem ssysWCatchallUser0 (v : Word) : Statement (.ssysWCatchallUser0 v) := fun _ => inRow_word 0x31E0#16 (accessWord .ssys .write 0x1E0#12) (by decide)

theorem ssysWCatchallUser1 (v : Word) : Statement (.ssysWCatchallUser1 v) := fun _ => inRow_word 0x31E4#16 (accessWord .ssys .write 0x1E4#12) (by decide)

theorem ssysRUndef (off : BitVec 12) : Statement (.ssysRUndef off) := fun _ => inRow_undef .ssys .read off

theorem ssysWUndef (off : BitVec 12) (v : Word) : Statement (.ssysWUndef off v) := fun _ => inRow_undef .ssys .write off

theorem i2cRMsa : Statement .i2cRMsa := fun _ => inRow_word 0x4000#16 (accessWord .i2c .read 0x000#12) (by decide)

theorem i2cRMcs : Statement .i2cRMcs := fun _ => inRow_word 0x4004#16 (accessWord .i2c .read 0x004#12) (by decide)

theorem i2cRMdr : Statement .i2cRMdr := fun _ => inRow_word 0x4008#16 (accessWord .i2c .read 0x008#12) (by decide)

theorem i2cRMtpr : Statement .i2cRMtpr := fun _ => inRow_word 0x400C#16 (accessWord .i2c .read 0x00C#12) (by decide)

theorem i2cRMimr : Statement .i2cRMimr := fun _ => inRow_word 0x4010#16 (accessWord .i2c .read 0x010#12) (by decide)

theorem i2cRMris : Statement .i2cRMris := fun _ => inRow_word 0x4014#16 (accessWord .i2c .read 0x014#12) (by decide)

theorem i2cRMmis : Statement .i2cRMmis := fun _ => inRow_word 0x4018#16 (accessWord .i2c .read 0x018#12) (by decide)

theorem i2cRMicr : Statement .i2cRMicr := fun _ => inRow_word 0x401C#16 (accessWord .i2c .read 0x01C#12) (by decide)

theorem i2cRMcr : Statement .i2cRMcr := fun _ => inRow_word 0x4020#16 (accessWord .i2c .read 0x020#12) (by decide)

theorem i2cWMsa (v : Word) : Statement (.i2cWMsa v) := fun _ => inRow_word 0x5000#16 (accessWord .i2c .write 0x000#12) (by decide)

theorem i2cWMcs (v : Word) : Statement (.i2cWMcs v) := fun _ => inRow_word 0x5004#16 (accessWord .i2c .write 0x004#12) (by decide)

theorem i2cWMdr (v : Word) : Statement (.i2cWMdr v) := fun _ => inRow_word 0x5008#16 (accessWord .i2c .write 0x008#12) (by decide)

theorem i2cWMtpr (v : Word) : Statement (.i2cWMtpr v) := fun _ => inRow_word 0x500C#16 (accessWord .i2c .write 0x00C#12) (by decide)

theorem i2cWMimr (v : Word) : Statement (.i2cWMimr v) := fun _ => inRow_word 0x5010#16 (accessWord .i2c .write 0x010#12) (by decide)

theorem i2cWMris (v : Word) : Statement (.i2cWMris v) := fun _ => inRow_word 0x5014#16 (accessWord .i2c .write 0x014#12) (by decide)

theorem i2cWMmis (v : Word) : Statement (.i2cWMmis v) := fun _ => inRow_word 0x5018#16 (accessWord .i2c .write 0x018#12) (by decide)

theorem i2cWMicr (v : Word) : Statement (.i2cWMicr v) := fun _ => inRow_word 0x501C#16 (accessWord .i2c .write 0x01C#12) (by decide)

theorem i2cWMcr (v : Word) : Statement (.i2cWMcr v) := fun _ => inRow_word 0x5020#16 (accessWord .i2c .write 0x020#12) (by decide)

theorem i2cRUndef (off : BitVec 12) : Statement (.i2cRUndef off) := fun _ => inRow_undef .i2c .read off

theorem i2cWUndef (off : BitVec 12) (v : Word) : Statement (.i2cWUndef off v) := fun _ => inRow_undef .i2c .write off

theorem adcRActss : Statement .adcRActss := fun _ => inRow_word 0x6000#16 (accessWord .adc .read 0x000#12) (by decide)

theorem adcRRis : Statement .adcRRis := fun _ => inRow_word 0x6004#16 (accessWord .adc .read 0x004#12) (by decide)

theorem adcRIm : Statement .adcRIm := fun _ => inRow_word 0x6008#16 (accessWord .adc .read 0x008#12) (by decide)

theorem adcRIsc : Statement .adcRIsc := fun _ => inRow_word 0x600C#16 (accessWord .adc .read 0x00C#12) (by decide)

theorem adcROstat : Statement .adcROstat := fun _ => inRow_word 0x6010#16 (accessWord .adc .read 0x010#12) (by decide)

theorem adcREmux : Statement .adcREmux := fun _ => inRow_word 0x6014#16 (accessWord .adc .read 0x014#12) (by decide)

theorem adcRUstat : Statement .adcRUstat := fun _ => inRow_word 0x6018#16 (accessWord .adc .read 0x018#12) (by decide)

theorem adcRSspri : Statement .adcRSspri := fun _ => inRow_word 0x6020#16 (accessWord .adc .read 0x020#12) (by decide)

theorem adcRPssi : Statement .adcRPssi := fun _ => inRow_word 0x6028#16 (accessWord .adc .read 0x028#12) (by decide)

theorem adcRSac : Statement .adcRSac := fun _ => inRow_word 0x6030#16 (accessWord .adc .read 0x030#12) (by decide)

theorem adcRSsmux0 : Statement .adcRSsmux0 := fun _ => inRow_word 0x6040#16 (accessWord .adc .read 0x040#12) (by decide)

theorem adcRSsctl0 : Statement .adcRSsctl0 := fun _ => inRow_word 0x6044#16 (accessWord .adc .read 0x044#12) (by decide)

theorem adcRSsfifo0 : Statement .adcRSsfifo0 := fun _ => inRow_word 0x6048#16 (accessWord .adc .read 0x048#12) (by decide)

theorem adcRSsfstat0 : Statement .adcRSsfstat0 := fun _ => inRow_word 0x604C#16 (accessWord .adc .read 0x04C#12) (by decide)

theorem adcRSsmux1 : Statement .adcRSsmux1 := fun _ => inRow_word 0x6060#16 (accessWord .adc .read 0x060#12) (by decide)

theorem adcRSsctl1 : Statement .adcRSsctl1 := fun _ => inRow_word 0x6064#16 (accessWord .adc .read 0x064#12) (by decide)

theorem adcRSsfifo1 : Statement .adcRSsfifo1 := fun _ => inRow_word 0x6068#16 (accessWord .adc .read 0x068#12) (by decide)

theorem adcRSsfstat1 : Statement .adcRSsfstat1 := fun _ => inRow_word 0x606C#16 (accessWord .adc .read 0x06C#12) (by decide)

theorem adcRSsmux2 : Statement .adcRSsmux2 := fun _ => inRow_word 0x6080#16 (accessWord .adc .read 0x080#12) (by decide)

theorem adcRSsctl2 : Statement .adcRSsctl2 := fun _ => inRow_word 0x6084#16 (accessWord .adc .read 0x084#12) (by decide)

theorem adcRSsfifo2 : Statement .adcRSsfifo2 := fun _ => inRow_word 0x6088#16 (accessWord .adc .read 0x088#12) (by decide)

theorem adcRSsfstat2 : Statement .adcRSsfstat2 := fun _ => inRow_word 0x608C#16 (accessWord .adc .read 0x08C#12) (by decide)

theorem adcRSsmux3 : Statement .adcRSsmux3 := fun _ => inRow_word 0x60A0#16 (accessWord .adc .read 0x0A0#12) (by decide)

theorem adcRSsctl3 : Statement .adcRSsctl3 := fun _ => inRow_word 0x60A4#16 (accessWord .adc .read 0x0A4#12) (by decide)

theorem adcRSsfifo3 : Statement .adcRSsfifo3 := fun _ => inRow_word 0x60A8#16 (accessWord .adc .read 0x0A8#12) (by decide)

theorem adcRSsfstat3 : Statement .adcRSsfstat3 := fun _ => inRow_word 0x60AC#16 (accessWord .adc .read 0x0AC#12) (by decide)

theorem adcWActss (v : Word) : Statement (.adcWActss v) := fun _ => inRow_word 0x7000#16 (accessWord .adc .write 0x000#12) (by decide)

theorem adcWRis (v : Word) : Statement (.adcWRis v) := fun _ => inRow_word 0x7004#16 (accessWord .adc .write 0x004#12) (by decide)

theorem adcWIm (v : Word) : Statement (.adcWIm v) := fun _ => inRow_word 0x7008#16 (accessWord .adc .write 0x008#12) (by decide)

theorem adcWIsc (v : Word) : Statement (.adcWIsc v) := fun _ => inRow_word 0x700C#16 (accessWord .adc .write 0x00C#12) (by decide)

theorem adcWOstat (v : Word) : Statement (.adcWOstat v) := fun _ => inRow_word 0x7010#16 (accessWord .adc .write 0x010#12) (by decide)

theorem adcWEmux (v : Word) : Statement (.adcWEmux v) := fun _ => inRow_word 0x7014#16 (accessWord .adc .write 0x014#12) (by decide)

theorem adcWUstat (v : Word) : Statement (.adcWUstat v) := fun _ => inRow_word 0x7018#16 (accessWord .adc .write 0x018#12) (by decide)

theorem adcWSspri (v : Word) : Statement (.adcWSspri v) := fun _ => inRow_word 0x7020#16 (accessWord .adc .write 0x020#12) (by decide)

theorem adcWPssi (v : Word) : Statement (.adcWPssi v) := fun _ => inRow_word 0x7028#16 (accessWord .adc .write 0x028#12) (by decide)

theorem adcWSac (v : Word) : Statement (.adcWSac v) := fun _ => inRow_word 0x7030#16 (accessWord .adc .write 0x030#12) (by decide)

theorem adcWSsmux0 (v : Word) : Statement (.adcWSsmux0 v) := fun _ => inRow_word 0x7040#16 (accessWord .adc .write 0x040#12) (by decide)

theorem adcWSsctl0 (v : Word) : Statement (.adcWSsctl0 v) := fun _ => inRow_word 0x7044#16 (accessWord .adc .write 0x044#12) (by decide)

theorem adcWSsfifo0 (v : Word) : Statement (.adcWSsfifo0 v) := fun _ => inRow_word 0x7048#16 (accessWord .adc .write 0x048#12) (by decide)

theorem adcWSsfstat0 (v : Word) : Statement (.adcWSsfstat0 v) := fun _ => inRow_word 0x704C#16 (accessWord .adc .write 0x04C#12) (by decide)

theorem adcWSsmux1 (v : Word) : Statement (.adcWSsmux1 v) := fun _ => inRow_word 0x7060#16 (accessWord .adc .write 0x060#12) (by decide)

theorem adcWSsctl1 (v : Word) : Statement (.adcWSsctl1 v) := fun _ => inRow_word 0x7064#16 (accessWord .adc .write 0x064#12) (by decide)

theorem adcWSsfifo1 (v : Word) : Statement (.adcWSsfifo1 v) := fun _ => inRow_word 0x7068#16 (accessWord .adc .write 0x068#12) (by decide)

theorem adcWSsfstat1 (v : Word) : Statement (.adcWSsfstat1 v) := fun _ => inRow_word 0x706C#16 (accessWord .adc .write 0x06C#12) (by decide)

theorem adcWSsmux2 (v : Word) : Statement (.adcWSsmux2 v) := fun _ => inRow_word 0x7080#16 (accessWord .adc .write 0x080#12) (by decide)

theorem adcWSsctl2 (v : Word) : Statement (.adcWSsctl2 v) := fun _ => inRow_word 0x7084#16 (accessWord .adc .write 0x084#12) (by decide)

theorem adcWSsfifo2 (v : Word) : Statement (.adcWSsfifo2 v) := fun _ => inRow_word 0x7088#16 (accessWord .adc .write 0x088#12) (by decide)

theorem adcWSsfstat2 (v : Word) : Statement (.adcWSsfstat2 v) := fun _ => inRow_word 0x708C#16 (accessWord .adc .write 0x08C#12) (by decide)

theorem adcWSsmux3 (v : Word) : Statement (.adcWSsmux3 v) := fun _ => inRow_word 0x70A0#16 (accessWord .adc .write 0x0A0#12) (by decide)

theorem adcWSsctl3 (v : Word) : Statement (.adcWSsctl3 v) := fun _ => inRow_word 0x70A4#16 (accessWord .adc .write 0x0A4#12) (by decide)

theorem adcWSsfifo3 (v : Word) : Statement (.adcWSsfifo3 v) := fun _ => inRow_word 0x70A8#16 (accessWord .adc .write 0x0A8#12) (by decide)

theorem adcWSsfstat3 (v : Word) : Statement (.adcWSsfstat3 v) := fun _ => inRow_word 0x70AC#16 (accessWord .adc .write 0x0AC#12) (by decide)

theorem adcRUndef (off : BitVec 12) : Statement (.adcRUndef off) := fun _ => inRow_undef .adc .read off

theorem adcWUndef (off : BitVec 12) (v : Word) : Statement (.adcWUndef off v) := fun _ => inRow_undef .adc .write off

theorem gptmEvFireA (n : Nat) : Statement (.gptmEvFireA n) := fun _ => inRow_word 0x8000#16 (eventWord .gptm 0x000#12) (by decide)

theorem gptmEvFireB (n : Nat) : Statement (.gptmEvFireB n) := fun _ => inRow_word 0x8001#16 (eventWord .gptm 0x001#12) (by decide)

theorem gptmEvRestore (n : Nat) (k : Word) : Statement (.gptmEvRestore n k) := fun _ => inRow_word 0x8FFE#16 (eventWord .gptm 0xFFE#12) (by decide)

theorem gptmEvReset (n : Nat) : Statement (.gptmEvReset n) := fun _ => inRow_word 0x8FFF#16 (eventWord .gptm 0xFFF#12) (by decide)

theorem ssysEvRestore (k : Word) : Statement (.ssysEvRestore k) := fun _ => inRow_word 0xAFFE#16 (eventWord .ssys 0xFFE#12) (by decide)

theorem ssysEvReset : Statement .ssysEvReset := fun _ => inRow_word 0xAFFF#16 (eventWord .ssys 0xFFF#12) (by decide)

theorem i2cEvRestore (k : Word) : Statement (.i2cEvRestore k) := fun _ => inRow_word 0xCFFE#16 (eventWord .i2c 0xFFE#12) (by decide)

theorem i2cEvReset : Statement .i2cEvReset := fun _ => inRow_word 0xCFFF#16 (eventWord .i2c 0xFFF#12) (by decide)

theorem adcEvTrigger : Statement .adcEvTrigger := fun _ => inRow_word 0xE000#16 (eventWord .adc 0x000#12) (by decide)

theorem adcEvRestore (k : Word) : Statement (.adcEvRestore k) := fun _ => inRow_word 0xEFFE#16 (eventWord .adc 0xFFE#12) (by decide)

theorem adcEvReset : Statement .adcEvReset := fun _ => inRow_word 0xEFFF#16 (eventWord .adc 0xFFF#12) (by decide)

end Sys2Proof.Laws.TableRow
end

