-- ==== Sys2Proof/Tests/Slice0.lean ====
section
/-! SUPPORT. The author's own tests: an ill-formed operation for each check of WellFormed, the decoding of every
constructor from a word written out from spec/30_encoding.md, a few single steps with the expected value from the spec's
examples and vectors, and for each statement with hypotheses a witness that meets them. -/

namespace Sys2Proof.Tests

open Sys2Proof Sys2Proof.Machine

/-! ## An ill-formed operation for each check of WellFormed -/

theorem test_ill_formed_gptm_read : (Instr.gptmRUndef 0 0x000#12).wellFormed = false := by decide

theorem test_ill_formed_gptm_write : (Instr.gptmWUndef 0 0x04C#12 0#32).wellFormed = false := by decide

theorem test_ill_formed_ssys_read : (Instr.ssysRUndef 0x060#12).wellFormed = false := by decide

theorem test_ill_formed_ssys_write : (Instr.ssysWUndef 0x1E4#12 0#32).wellFormed = false := by decide

theorem test_ill_formed_i2c_read : (Instr.i2cRUndef 0x01C#12).wellFormed = false := by decide

theorem test_ill_formed_i2c_write : (Instr.i2cWUndef 0x020#12 0#32).wellFormed = false := by decide

theorem test_ill_formed_adc_read : (Instr.adcRUndef 0x028#12).wellFormed = false := by decide

theorem test_ill_formed_adc_write : (Instr.adcWUndef 0x0AC#12 0#32).wellFormed = false := by decide

/-- An offset that is no row is well formed, 0x064 and the last of the region among them. -/
theorem test_well_formed_undef :
    (Instr.ssysRUndef 0x064#12).wellFormed = true ∧ (Instr.adcWUndef 0xFFF#12 0#32).wellFormed = true := by decide

/-! ## Every constructor's word (30_encoding.md R92 to R97) -/

theorem test_decode_gptm_reads :
    [0x0000, 0x0004, 0x0008, 0x000C, 0x0018, 0x001C, 0x0020, 0x0024, 0x0028, 0x002C, 0x0030, 0x0034, 0x0038,
     0x003C, 0x0040, 0x0044, 0x0048, 0x004C, 0x0010].map (decodeTableWord 16) =
      [some (.gptmRCfg 0), some (.gptmRTamr 0), some (.gptmRTbmr 0), some (.gptmRCtl 0), some (.gptmRImr 0),
       some (.gptmRRis 0), some (.gptmRMis 0), some (.gptmRIcr 0), some (.gptmRTailr 0), some (.gptmRTbilr 0),
       some (.gptmRTamatchr 0), some (.gptmRTbmatchr 0), some (.gptmRTapr 0), some (.gptmRTbpr 0),
       some (.gptmRTapmr 0), some (.gptmRTbpmr 0), some (.gptmRTar 0), some (.gptmRTbr 0),
       some (.gptmRUndef 0 0x010#12)] := by decide

theorem test_decode_gptm_writes :
    [0x1000, 0x1004, 0x1008, 0x100C, 0x1018, 0x101C, 0x1020, 0x1024, 0x1028, 0x102C, 0x1030, 0x1034, 0x1038,
     0x103C, 0x1040, 0x1044, 0x1048, 0x104C, 0x1010].map (decodeTableWord 16) =
      [some (.gptmWCfg 0 0#32), some (.gptmWTamr 0 0#32), some (.gptmWTbmr 0 0#32), some (.gptmWCtl 0 0#32),
       some (.gptmWImr 0 0#32), some (.gptmWRis 0 0#32), some (.gptmWMis 0 0#32), some (.gptmWIcr 0 0#32),
       some (.gptmWTailr 0 0#32), some (.gptmWTbilr 0 0#32), some (.gptmWTamatchr 0 0#32),
       some (.gptmWTbmatchr 0 0#32), some (.gptmWTapr 0 0#32), some (.gptmWTbpr 0 0#32),
       some (.gptmWTapmr 0 0#32), some (.gptmWTbpmr 0 0#32), some (.gptmWTar 0 0#32), some (.gptmWTbr 0 0#32),
       some (.gptmWUndef 0 0x010#12 0#32)] := by decide

theorem test_decode_ssys_reads_low :
    [0x2000, 0x2004, 0x2008, 0x2010, 0x2014, 0x2018, 0x201C, 0x2060, 0x2068, 0x2070, 0x2030, 0x2034, 0x2040,
     0x2044, 0x2048, 0x2050].map (decodeTableWord 16) =
      [some .ssysRDid0, some .ssysRDid1, some .ssysRDc0, some .ssysRDc1, some .ssysRDc2, some .ssysRDc3,
       some .ssysRDc4, some .ssysRRcc, some .ssysRClkcfg, some .ssysRRcc2, some .ssysRCatchallPborctl,
       some .ssysRCatchallLdopctl, some .ssysRCatchallSrcr0, some .ssysRCatchallSrcr1,
       some .ssysRCatchallSrcr2, some .ssysRCatchallRis] := by decide

theorem test_decode_ssys_reads_high :
    [0x2054, 0x2058, 0x205C, 0x2100, 0x2104, 0x2108, 0x2110, 0x2114, 0x2118, 0x2120, 0x2124, 0x2128, 0x2150,
     0x2160, 0x21E0, 0x21E4, 0x2064].map (decodeTableWord 16) =
      [some .ssysRCatchallImc, some .ssysRCatchallMisc, some .ssysRCatchallResc, some .ssysRCatchallRcgc0,
       some .ssysRCatchallRcgc1, some .ssysRCatchallRcgc2, some .ssysRCatchallScgc0, some .ssysRCatchallScgc1,
       some .ssysRCatchallScgc2, some .ssysRCatchallDcgc0, some .ssysRCatchallDcgc1, some .ssysRCatchallDcgc2,
       some .ssysRCatchallClkvclr, some .ssysRCatchallLdoarst, some .ssysRCatchallUser0,
       some .ssysRCatchallUser1, some (.ssysRUndef 0x064#12)] := by decide

theorem test_decode_ssys_writes_low :
    [0x3000, 0x3004, 0x3008, 0x3010, 0x3014, 0x3018, 0x301C, 0x3060, 0x3068, 0x3070, 0x3030, 0x3034, 0x3040,
     0x3044, 0x3048, 0x3050].map (decodeTableWord 16) =
      [some (.ssysWDid0 0#32), some (.ssysWDid1 0#32), some (.ssysWDc0 0#32), some (.ssysWDc1 0#32),
       some (.ssysWDc2 0#32), some (.ssysWDc3 0#32), some (.ssysWDc4 0#32), some (.ssysWRcc 0#32),
       some (.ssysWClkcfg 0#32), some (.ssysWRcc2 0#32), some (.ssysWCatchallPborctl 0#32),
       some (.ssysWCatchallLdopctl 0#32), some (.ssysWCatchallSrcr0 0#32), some (.ssysWCatchallSrcr1 0#32),
       some (.ssysWCatchallSrcr2 0#32), some (.ssysWCatchallRis 0#32)] := by decide

theorem test_decode_ssys_writes_high :
    [0x3054, 0x3058, 0x305C, 0x3100, 0x3104, 0x3108, 0x3110, 0x3114, 0x3118, 0x3120, 0x3124, 0x3128, 0x3150,
     0x3160, 0x31E0, 0x31E4, 0x3064].map (decodeTableWord 16) =
      [some (.ssysWCatchallImc 0#32), some (.ssysWCatchallMisc 0#32), some (.ssysWCatchallResc 0#32),
       some (.ssysWCatchallRcgc0 0#32), some (.ssysWCatchallRcgc1 0#32), some (.ssysWCatchallRcgc2 0#32),
       some (.ssysWCatchallScgc0 0#32), some (.ssysWCatchallScgc1 0#32), some (.ssysWCatchallScgc2 0#32),
       some (.ssysWCatchallDcgc0 0#32), some (.ssysWCatchallDcgc1 0#32), some (.ssysWCatchallDcgc2 0#32),
       some (.ssysWCatchallClkvclr 0#32), some (.ssysWCatchallLdoarst 0#32), some (.ssysWCatchallUser0 0#32),
       some (.ssysWCatchallUser1 0#32), some (.ssysWUndef 0x064#12 0#32)] := by decide

theorem test_decode_i2c_reads :
    [0x4000, 0x4004, 0x4008, 0x400C, 0x4010, 0x4014, 0x4018, 0x401C, 0x4020, 0x4024].map (decodeTableWord 16) =
      [some .i2cRMsa, some .i2cRMcs, some .i2cRMdr, some .i2cRMtpr, some .i2cRMimr, some .i2cRMris,
       some .i2cRMmis, some .i2cRMicr, some .i2cRMcr, some (.i2cRUndef 0x024#12)] := by decide

theorem test_decode_i2c_writes :
    [0x5000, 0x5004, 0x5008, 0x500C, 0x5010, 0x5014, 0x5018, 0x501C, 0x5020, 0x5024].map (decodeTableWord 16) =
      [some (.i2cWMsa 0#32), some (.i2cWMcs 0#32), some (.i2cWMdr 0#32), some (.i2cWMtpr 0#32),
       some (.i2cWMimr 0#32), some (.i2cWMris 0#32), some (.i2cWMmis 0#32), some (.i2cWMicr 0#32),
       some (.i2cWMcr 0#32), some (.i2cWUndef 0x024#12 0#32)] := by decide

theorem test_decode_adc_reads_low :
    [0x6000, 0x6004, 0x6008, 0x600C, 0x6010, 0x6014, 0x6018, 0x6020, 0x6028, 0x6030, 0x6040, 0x6044, 0x6048].map (decodeTableWord 16) =
      [some .adcRActss, some .adcRRis, some .adcRIm, some .adcRIsc, some .adcROstat, some .adcREmux,
       some .adcRUstat, some .adcRSspri, some .adcRPssi, some .adcRSac, some .adcRSsmux0, some .adcRSsctl0,
       some .adcRSsfifo0] := by decide

theorem test_decode_adc_reads_high :
    [0x604C, 0x6060, 0x6064, 0x6068, 0x606C, 0x6080, 0x6084, 0x6088, 0x608C, 0x60A0, 0x60A4, 0x60A8, 0x60AC,
     0x60C0].map (decodeTableWord 16) =
      [some .adcRSsfstat0, some .adcRSsmux1, some .adcRSsctl1, some .adcRSsfifo1, some .adcRSsfstat1,
       some .adcRSsmux2, some .adcRSsctl2, some .adcRSsfifo2, some .adcRSsfstat2, some .adcRSsmux3,
       some .adcRSsctl3, some .adcRSsfifo3, some .adcRSsfstat3, some (.adcRUndef 0x0C0#12)] := by decide

theorem test_decode_adc_writes_low :
    [0x7000, 0x7004, 0x7008, 0x700C, 0x7010, 0x7014, 0x7018, 0x7020, 0x7028, 0x7030, 0x7040, 0x7044, 0x7048].map (decodeTableWord 16) =
      [some (.adcWActss 0#32), some (.adcWRis 0#32), some (.adcWIm 0#32), some (.adcWIsc 0#32),
       some (.adcWOstat 0#32), some (.adcWEmux 0#32), some (.adcWUstat 0#32), some (.adcWSspri 0#32),
       some (.adcWPssi 0#32), some (.adcWSac 0#32), some (.adcWSsmux0 0#32), some (.adcWSsctl0 0#32),
       some (.adcWSsfifo0 0#32)] := by decide

theorem test_decode_adc_writes_high :
    [0x704C, 0x7060, 0x7064, 0x7068, 0x706C, 0x7080, 0x7084, 0x7088, 0x708C, 0x70A0, 0x70A4, 0x70A8, 0x70AC,
     0x70C0].map (decodeTableWord 16) =
      [some (.adcWSsfstat0 0#32), some (.adcWSsmux1 0#32), some (.adcWSsctl1 0#32), some (.adcWSsfifo1 0#32),
       some (.adcWSsfstat1 0#32), some (.adcWSsmux2 0#32), some (.adcWSsctl2 0#32), some (.adcWSsfifo2 0#32),
       some (.adcWSsfstat2 0#32), some (.adcWSsmux3 0#32), some (.adcWSsctl3 0#32), some (.adcWSsfifo3 0#32),
       some (.adcWSsfstat3 0#32), some (.adcWUndef 0x0C0#12 0#32)] := by decide

theorem test_decode_events :
    [0x8000, 0x8001, 0x8FFE, 0x8FFF, 0xAFFE, 0xAFFF, 0xCFFE, 0xCFFF, 0xE000, 0xEFFE, 0xEFFF].map (decodeTableWord 16) =
      [some (.gptmEvFireA 0), some (.gptmEvFireB 0), some (.gptmEvRestore 0 0#32), some (.gptmEvReset 0),
       some (.ssysEvRestore 0#32), some .ssysEvReset, some (.i2cEvRestore 0#32), some .i2cEvReset,
       some .adcEvTrigger, some (.adcEvRestore 0#32), some .adcEvReset] := by decide

/-- Words written bit by bit: K, B, D, then the offset or event code; the operands beside the word are kept. -/
theorem test_decode_bits :
    decode ⟨0b0001000000001100#16, 3, 0x21#32⟩ = .ok (.gptmWCtl 3 0x21#32) ∧
      decode ⟨0b0011000001100000#16, 0, 7#32⟩ = .ok (.ssysWRcc 7#32) ∧
      decode ⟨0b0101000000000100#16, 0, 7#32⟩ = .ok (.i2cWMcs 7#32) ∧
      decode ⟨0b0110000001001000#16, 0, 0#32⟩ = .ok .adcRSsfifo0 ∧
      decode ⟨0b1000000000000000#16, 2, 0#32⟩ = .ok (.gptmEvFireA 2) ∧
      decode ⟨0b1010111111111110#16, 0, 5#32⟩ = .ok (.ssysEvRestore 5#32) :=
  ⟨rfl, rfl, rfl, rfl, rfl, rfl⟩

/-- An event code without a row, and an event word with D = 1, are refused by name. -/
theorem test_no_such_event :
    decode ⟨0x8002#16, 0, 0#32⟩ = .error (.noSuchEvent 0x8002#16) ∧
      decode ⟨0x9000#16, 0, 0#32⟩ = .error (.noSuchEvent 0x9000#16) :=
  ⟨rfl, rfl⟩

/-! ## One step each, with the expected value from the vectors of 95_test_vectors.md -/

/-- The answer is a next state of which `p` holds. -/
def answers (r : Result) (p : State → Bool) : Bool :=
  match r with
  | .next t => p t
  | .fault _ => false
  | .refused _ => false

/-- The machine after reset with one GPTM instance in the given state. -/
def onGptm (g : Gptm) : State := { State.reset with gptm := [g] }

/-- The machine after reset with the I2C block and the bus in the given states. -/
def onI2c (x : I2c) (b : I2cBus) : State := { State.reset with i2c := x, bus := b }

/-- The machine after reset with sequencer 0's FIFO in the given state, its first slots filled. -/
def onFifo (st : Word) (d0 d1 : Word) : State :=
  { State.reset with
    adc :=
      { Adc.reset with
        activeSequencers := 1#4
        sampleSource := 5#32
        fifo := Adc.reset.fifo.set 0 { state := st, data := (Fifo.reset.data.set 0 d0).set 1 d1 } } }

/-- A countdown of load 1000, armed at 80000, with TAEN and TAOTE set. -/
def counting : Gptm :=
  { Gptm.reset with control := 0x21#32, load := ⟨1000#16, 0#16⟩, armed := ⟨true, false⟩, nextDeadline := ⟨80000, 0⟩ }

/-- The I2C master with MFE set, the slave address and the data register given. -/
def master (msa mdr : Byte) : I2c := { I2c.reset with masterConfig := 0x10#32, slaveAddress := msa, dataRegister := mdr }

/-- The bus as `holder` left it, with the next answers of `acquire` and `recvByte` fixed. -/
def busWith (holder : BusHolder) (ok : Bool) (x : Byte) : I2cBus :=
  { I2cBus.reset with holder := holder, nextAcquire := some ok, nextRecv := some x }

/-- V1. -/
theorem test_tailr_write :
    answers (exec (.gptmWTailr 0 0x12345678#32) State.reset)
      (fun t => t.gptm = [{ Gptm.reset with load := ⟨0x5678#16, 0x1234#16⟩ }]) = true := by decide

/-- V3. -/
theorem test_tailr_write_dual :
    answers (exec (.gptmWTailr 0 0xABCD9876#32) (onGptm { Gptm.reset with config := 4#32, load := ⟨0x5678#16, 0x1234#16⟩ }))
      (fun t => t.gptm.map Gptm.load = [⟨0x9876#16, 0x1234#16⟩]) = true := by decide

/-- V5. -/
theorem test_imr_write :
    answers (exec (.gptmWImr 0 0xFFFFFFFF#32) State.reset) (fun t => t.gptm.map Gptm.interruptMask = [0x77#32]) = true := by
  decide

/-- V8: the code is GPTM_TIMER_VALUE. -/
theorem test_tar_read_in_countdown :
    answers (exec (.gptmRTar 0) State.reset) (fun t => t.faulted = some .gptmTimerValue) = true := by decide

/-- V20. -/
theorem test_enable_arms :
    answers (exec (.gptmWCtl 0 1#32) (onGptm { Gptm.reset with mode := ⟨2#32, 0#32⟩, load := ⟨1000#16, 0#16⟩ }))
      (fun t => t.gptm.map Gptm.nextDeadline = [⟨80000, 0⟩] && t.gptm.map Gptm.armed = [⟨true, false⟩]) = true := by decide

/-- V21. -/
theorem test_periodic_fire :
    answers (exec (.gptmEvFireA 0) { onGptm counting with now := 80000 })
      (fun t => t.gptm.map Gptm.nextDeadline = [⟨160000, 0⟩] && t.gptm.map Gptm.rawStatus = [1#32]) = true := by decide

/-- R152's example: one-shot with TAOTE. -/
theorem test_one_shot_fire :
    answers (exec (.gptmEvFireA 0) { onGptm { counting with mode := ⟨1#32, 0#32⟩ } with now := 80000 })
      (fun t => t.gptm.map Gptm.control = [0x20#32] && t.gptm.map Gptm.armed = [⟨false, false⟩]) = true := by decide

/-- R202's example. -/
theorem test_rcc_write :
    answers (exec (.ssysWRcc 0x01800000#32) State.reset)
      (fun t => t.ssys.words.ris = 0x40#32 && t.ssys.systemClockScale = 20) = true := by decide

/-- R203's example. -/
theorem test_clkcfg_write :
    answers (exec (.ssysWClkcfg 0xE#32) State.reset) (fun t => t.ssys.rccConfig = 0xA#32) = true := by decide

/-- R204's examples. -/
theorem test_rcc2_write :
    [0x84800000#32, 0x9F800000#32, 0x80000000#32].map
        (fun v => answers (exec (.ssysWRcc2 v) State.reset)
          (fun t => [50, 320, 5].contains t.ssys.systemClockScale)) = [true, true, true] := by decide

/-- R241's first example: one send, released, MCS reads 0x20. -/
theorem test_mcs_send :
    answers (exec (.i2cWMcs 7#32) (onI2c (master 0xA0#8 0x55#8) (busWith .none true 0#8)))
      (fun t => t.bus.calls = [.acquire 0x50#7 false true, .sendByte 0x55#8, .release] && t.i2c.rawInterruptStatus = 1#32 &&
        t.i2c.controlStatus = 0#32) = true := by decide

/-- R241's second example: MCS reads 0x32, so 0x12 is stored. -/
theorem test_mcs_arbitration_loss :
    answers (exec (.i2cWMcs 3#32) (onI2c (master 0xA0#8 0#8) (busWith .other true 0#8)))
      (fun t => t.i2c.controlStatus = 0x12#32 && t.i2c.rawInterruptStatus = 0#32) = true := by decide

/-- R227's example: a received 0x3C. -/
theorem test_mcs_receive :
    answers (exec (.i2cWMcs 7#32) (onI2c (master 0xA1#8 0#8) (busWith .none true 0x3C#8)))
      (fun t => t.i2c.dataRegister = 0x3C#8) = true := by decide

/-- R248's example. -/
theorem test_mcr_loopback_first :
    answers (exec (.i2cWMcr 0x21#32) State.reset) (fun t => t.faulted = some .i2cLoopback) = true := by decide

/-- R282's example, its second read: 0x204 from state 0x021 empties the FIFO. -/
theorem test_fifo_read_last :
    answers (exec .adcRSsfifo0 (onFifo 0x021#32 0x200#32 0x204#32))
      (fun t => t.readData = 0x204#32 && t.adc.fifo[0].state = 0x122#32) = true := by decide

/-- R282's example, its third read. -/
theorem test_fifo_underflow :
    answers (exec .adcRSsfifo0 (onFifo 0x122#32 0x200#32 0x204#32))
      (fun t => t.readData = 0#32 && t.adc.fifo[0].state = 0x122#32 && t.adc.underflow = 1#32) = true := by decide

/-- R305's example. -/
theorem test_trigger :
    answers (exec .adcEvTrigger (onFifo 0x100#32 0#32 0#32))
      (fun t => t.adc.fifo[0].state = 0x010#32 && t.adc.rawInterruptStatus = 1#32 && t.adc.noise = 1#32) = true := by decide

/-- R300's example. -/
theorem test_ssmux_write :
    answers (exec (.adcWSsmux0 0x12345678#32) State.reset) (fun t => t.adc.mux[0] = 0x12301230#32) = true := by decide

/-- R301's example. -/
theorem test_ssctl_write_unsupported :
    answers (exec (.adcWSsctl1 2#32) State.reset) (fun t => t.faulted = some .adcSequence) = true := by decide

/-- V13, the misaligned read. -/
theorem test_misaligned_read :
    answers (perform (.access .read .gptm 0 2 4 0#32) State.reset) (fun t => t.faulted = some .accessSize) = true := by decide

/-- A word placed by the host is what the next step runs. -/
theorem test_fetch_word :
    answers (step (State.reset.withFetchWord 16 0x2060)) (fun t => t.readData = 0x078E3AC0#32) = true := by decide

/-- A FIRE word placed by the host is delivered: instance 0's channel is due. -/
theorem test_fetch_fire :
    answers (step (State.reset.withFetchWord 16 0x8000)) (fun t => t.gptm.map Gptm.rawStatus = [1#32]) = true := by decide

/-- R305: a stand-alone trigger is no step on a board that wires no source to the input, and one on a board that does. -/
theorem test_trigger_not_a_step :
    perform (.event 0x6000#15 0 0#32) State.reset = .refused .triggerNotAStep ∧
      answers (step (State.reset.withFetchWord 16 0xE000)) (fun t => t.adc = Adc.reset) = true :=
  ⟨rfl, by decide⟩

/-- R71, the 1.25 KB region: an offset in it is reached, one past it is not. -/
theorem test_small_region :
    let s : State := { State.reset with params := { Params.default with regionSize := 0x500 } }
    answers (perform (.access .read .ssys 0 0x1E4 4 0#32) s) (fun t => t.faulted = none) = true ∧
      answers (perform (.access .read .ssys 0 0x500 4 0#32) s) (fun t => t.faulted = some .ssysBadOffset) = true := by decide

/-- R10's default base of GPTM instance 1. -/
theorem test_base_gptm : Params.busAddress Params.default .gptm 1 0x00C = some 0x4003100C := by decide

/-! ## Witnesses: for each statement with hypotheses, a state and operands that meet them, for each clause -/

theorem witness_stepRunsDecodedOperation :
    let s : State :=
      { State.reset with
        params := { Params.default with adcTriggerWired := true }
        pending := [.access .write .adc 0 0xAC 4 0#32, .event 0x6000#15 0 0#32] }
    s.faulted = none ∧ (Instr.adcWSsfstat3 0#32).wellFormed = true ∧ Instr.adcEvTrigger.wellFormed = true ∧
      s.pending = .access .write .adc 0 0xAC 4 0#32 :: [.event 0x6000#15 0 0#32] ∧ s.hasBlock .adc 0 = true ∧
      0xAC % 4 = 0 ∧ 0xAC < s.params.regionSize ∧ 0xAC < 0x1000 ∧ s.hostBlocked = false ∧
      decode ⟨accessWord .adc .write (BitVec.ofNat 12 0xAC), 0, 0#32⟩ = .ok (.adcWSsfstat3 0#32) ∧
      { s with pending := [.event 0x6000#15 0 0#32] }.pending = .event 0x6000#15 0 0#32 :: [] ∧
      decode ⟨1#1 ++ 0x6000#15, 0, 0#32⟩ = .ok .adcEvTrigger ∧ s.params.adcTriggerWired = true := by
  refine ⟨?_, ?_, ?_, ?_, ?_, ?_, ?_, ?_, ?_, rfl, ?_, rfl, ?_⟩ <;> decide

theorem witness_accessChecksComeBeforeDecode :
    State.reset.hasBlock .gptm 0 = true ∧ 0 < State.reset.gptm.length ∧ State.reset.hostBlocked = false ∧
      (2 ≠ 4 ∨ 0x000 % 4 ≠ 0) ∧ (4 ≠ 4 ∨ 0xFFF % 4 ≠ 0) ∧ 0x1000 % 4 = 0 ∧
      (State.reset.params.regionSize ≤ 0x1000 ∨ 0x1000 ≤ 0x1000) ∧ 0xFFC % 4 = 0 ∧
      0xFFC < State.reset.params.regionSize ∧ 0xFFC < 0x1000 := by decide

theorem witness_faultIsTerminal :
    { State.reset with faulted := some FaultCode.adcPssi }.faulted = some .adcPssi ∧
      takeFault .accessSize State.reset = .next { State.reset with faulted := some .accessSize } := by
  exact ⟨rfl, rfl⟩

theorem witness_eventWordsDecodeOrAreRefused :
    (0x8002#16).getLsbD 15 = true ∧
      0x8002#16 ∉ [0x8000#16, 0x8001#16, 0x8FFE#16, 0x8FFF#16, 0xAFFE#16, 0xAFFF#16, 0xCFFE#16, 0xCFFF#16, 0xE000#16,
        0xEFFE#16, 0xEFFF#16] ∧ (0xF000#16).getLsbD 15 = true := by decide

theorem witness_decodeOfEncodeIsIdentity :
    (Instr.gptmWUndef 3 0xFFF#12 7#32).wellFormed = true ∧ (Instr.i2cWMcs 7#32).wellFormed = true := by decide

theorem witness_encodeOfDecodeGivesTheWord : decode ⟨0x1FFF#16, 3, 7#32⟩ = .ok (.gptmWUndef 3 0xFFF#12 7#32) := rfl

theorem witness_undefinedOffsetsFault :
    0 < State.reset.gptm.length ∧
      [gptmOffsets.contains 0x050, ssysOffsets.contains 0x1E8, i2cOffsets.contains 0x024, adcOffsets.contains 0x0B0,
        gptmOffsets.contains 0xFFF] = [false, false, false, false, false] := by decide

/-- For every statement whose only hypothesis is a GPTM instance. -/
theorem witness_gptmInstance : State.reset.gptm[0]? = some Gptm.reset := rfl

theorem witness_gptmTimerValueReads :
    (onGptm { Gptm.reset with config := 1#32 }).params.quirks.tarControlTest = false ∧
      ({ Gptm.reset with config := 1#32 } : Gptm).config = 1#32 ∧ Gptm.reset.config ≠ 1#32 ∧
      { Params.default with quirks := { Params.default.quirks with tarControlTest := true } }.quirks.tarControlTest = true ∧
      ({ Gptm.reset with control := 1#32 } : Gptm).control = 1#32 ∧ Gptm.reset.control ≠ 1#32 := by decide

/-- The clauses in order: no rise, a rise (for config 0 and 1); then, at config 2, 3 and 4, A faults, A only, B faults,
neither faults. -/
theorem witness_controlWrite :
    let rises (g : Gptm) (v : Word) (k : Nat) : Bool := !g.control.getLsbD k && v.getLsbD k
    let pwm : Gptm := { Gptm.reset with config := 4#32, mode := ⟨0xA#32, 0xA#32⟩ }
    (onGptm Gptm.reset).gptm[0]? = some Gptm.reset ∧ (onGptm Gptm.reset).params.quirks.pwmImmediateFire = false ∧
      Gptm.reset.config = 0#32 ∧ ({ Gptm.reset with config := 1#32 } : Gptm).config = 1#32 ∧
      rises counting 0#32 0 = false ∧ rises Gptm.reset 1#32 0 = true ∧ 2#32 ≤ 2#32 ∧ 3#32 < 4#32 ∧ 4#32 ≤ pwm.config ∧
      Gptm.reset.mode.a ≠ 0xA#32 ∧ pwm.mode.a = 0xA#32 ∧ rises pwm 0x101#32 8 = true ∧
      ({ pwm with mode := ⟨0xA#32, 0#32⟩ } : Gptm).mode.b ≠ 0xA#32 ∧ pwm.mode.b = 0xA#32 := by decide

/-- The clauses in order: configs 0 and 1; A faults; then, A not faulting, config 3, B faults, B does not. -/
theorem witness_pwmQuirkArmsAtNow :
    let g : Gptm := { Gptm.reset with config := 4#32, mode := ⟨0xA#32, 0xA#32⟩ }
    let s : State :=
      { onGptm g with params := { Params.default with quirks := { Params.default.quirks with pwmImmediateFire := true } } }
    let rises (g : Gptm) (v : Word) (k : Nat) : Bool := !g.control.getLsbD k && v.getLsbD k
    s.gptm[0]? = some g ∧ s.params.quirks.pwmImmediateFire = true ∧ Gptm.reset.config = 0#32 ∧
      ({ Gptm.reset with config := 1#32 } : Gptm).config = 1#32 ∧ 2#32 ≤ 2#32 ∧ rises g 0x101#32 0 = true ∧
      Gptm.reset.mode.a ≠ s.params.pwmSentinel ∧ g.mode.a = s.params.pwmSentinel ∧ 3#32 < 4#32 ∧ 4#32 ≤ g.config ∧
      rises g 0x101#32 8 = true ∧ ({ g with mode := ⟨0xA#32, 0#32⟩ } : Gptm).mode.b ≠ s.params.pwmSentinel ∧
      g.mode.b = s.params.pwmSentinel := by decide

theorem witness_countdownFire :
    let s : State := { onGptm counting with now := 80000 }
    s.gptm[0]? = some counting ∧ counting.armed.a = true ∧ counting.nextDeadline.a ≤ s.now ∧ counting.config = 0#32 ∧
      counting.mode.a.getLsbD 0 = false ∧
      ({ counting with mode := ⟨1#32, 0#32⟩ } : Gptm).mode.a.getLsbD 0 = true := by decide

theorem witness_rtcFire :
    let g : Gptm := { counting with config := 1#32 }
    let s : State := { onGptm g with now := 80000 }
    s.gptm[0]? = some g ∧ g.armed.a = true ∧ g.nextDeadline.a ≤ s.now ∧ g.config = 1#32 := by decide

theorem witness_modePathFires :
    let g : Gptm := { counting with config := 2#32, armed := ⟨true, true⟩ }
    let h : Gptm := { g with config := 4#32, mode := ⟨0xA#32, 0xA#32⟩ }
    let s : State := { onGptm g with now := 80000 }
    s.gptm[0]? = some g ∧ { s with gptm := [h] }.gptm[0]? = some h ∧ g.armed.a = true ∧ g.nextDeadline.a ≤ s.now ∧
      2#32 ≤ g.config ∧ h.mode.a = 0xA#32 ∧ g.mode.a ≠ 0xA#32 ∧ g.armed.b = true ∧ g.nextDeadline.b ≤ s.now ∧
      g.config < 4#32 ∧ 4#32 ≤ h.config ∧ h.mode.b = 0xA#32 ∧ g.mode.b ≠ 0xA#32 := by decide

theorem witness_fireEnabledExactlyWhenDue :
    (onGptm counting).gptm[0]? = some counting ∧
      ¬ (counting.armed.a = true ∧ counting.nextDeadline.a ≤ (onGptm counting).now) ∧
      ¬ (counting.armed.b = true ∧ counting.nextDeadline.b ≤ (onGptm counting).now) ∧
      counting.armed.a = true ∧ counting.nextDeadline.a ≤ { onGptm counting with now := 80000 }.now := by decide

/-- Two fires, the first delivered on time and the second late, and two fires in a row from the second's deadline on. -/
theorem witness_periodicCountdownKeepsPhase :
    let s : State := onGptm counting
    let xs : List Stimulus :=
      [.advance 80000, .event 0x0000#15 0 0#32, .advance 400000, .event 0x0000#15 0 0#32]
    s.faulted = none ∧ s.gptm[0]? = some counting ∧ counting.config = 0#32 ∧ counting.mode.a.getLsbD 0 = false ∧
      counting.armed.a = true ∧ (∀ x ∈ xs, isFireA 0 x = true ∨ isAdvance x = true) ∧ xs.countP (isFireA 0) = 2 ∧
      answers (performAll xs s) (fun t => t.gptm.map Gptm.nextDeadline = [⟨240000, 0⟩]) = true ∧
      counting.nextDeadline.a +
          (2 - 1) * ((counting.load.a.toNat + counting.load.b.toNat * 2 ^ 16) * s.ssys.systemClockScale) ≤
        { s with now := 160000 }.now := by decide

theorem witness_rtcCounterAfterManyTicks :
    let g : Gptm := { counting with config := 1#32, matchReg := ⟨2#16, 0#16⟩ }
    let s : State := { onGptm g with now := 3000080000 }
    let xs : List Stimulus := [.event 0x0000#15 0 0#32, .advance 3000080001, .event 0x0000#15 0 0#32]
    s.faulted = none ∧ s.gptm[0]? = some g ∧ g.config = 1#32 ∧ g.armed.a = true ∧ g.rtcCounter = 0#32 ∧
      s.params.quirks.rtcZeroStatus = false ∧ g.matchReg.a.toNat + g.matchReg.b.toNat * 2 ^ 16 < 2 ^ 32 - 1 ∧
      (∀ x ∈ xs, isFireA 0 x = true ∨ isAdvance x = true) ∧
      answers (performAll xs s) (fun t => t.gptm.map Gptm.rtcCounter = [2#32]) = true ∧
      g.nextDeadline.a + (4 - 1) * s.params.ticksPerSecond ≤ s.now := by decide

theorem witness_prescaleHasNoEffect :
    ∃ t h, (onGptm Gptm.reset).gptm[0]? = some Gptm.reset ∧ exec (.gptmWCtl 0 1#32) (onGptm Gptm.reset) = .next t ∧
      t.gptm[0]? = some h :=
  ⟨_, _, rfl, rfl, rfl⟩

/-- For every statement about an access that answers a next state: a GPTM write that is not one of CTL, an SSYS write, and
a read that is not one of SSFIFOn. -/
theorem witness_accesses :
    ∃ t u w, perform (.access .write .gptm 0 0x008 4 7#32) State.reset = .next t ∧
      perform (.access .write .ssys 0 0x060 4 0#32) State.reset = .next u ∧ u.faulted = State.reset.faulted ∧
      State.reset.faulted = none ∧ perform (.access .read .adc 0 0x04C 4 0#32) State.reset = .next w ∧
      0x04C ∉ [0x048, 0x068, 0x088, 0x0A8] :=
  ⟨_, _, _, rfl, rfl, rfl, rfl, rfl, by decide⟩

theorem witness_clockScaleRange : (0#32).getLsbD 31 = false ∧ (0x9F800000#32).getLsbD 31 = true := by decide

/-- did0 of version 0, of version 1 with classes 0, 1 and 2, and of version 2. -/
theorem witness_boardClassLookup :
    [0x0032000E, 0x10000000, 0x10010002, 0x10020000, 0x20000000].map
        (fun d : Nat => (d / 2 ^ 28 % 8, d / 2 ^ 16 % 256)) = [(0, 50), (1, 0), (1, 1), (1, 2), (2, 0)] := by decide

theorem witness_rccTwoWrite :
    Params.default.rcc2IgnoredOnSandstorm = false ∧ boardClass State.reset.ssys.board.did0 = some .fury ∧
      boardClass Board.sandstorm.did0 = some .sandstorm ∧
      { Params.default with rcc2IgnoredOnSandstorm := true }.rcc2IgnoredOnSandstorm = true ∧
      boardClass { Board.fury with did0 := 0x10020000#32 }.did0 = none := by decide

theorem witness_mcrWrite :
    (0x21#32).getLsbD 0 = true ∧ (0x20#32).getLsbD 0 = false ∧ (0x20#32).getLsbD 5 = true ∧
      (0xFFFFFFDE#32).getLsbD 0 = false ∧ (0xFFFFFFDE#32).getLsbD 5 = false := by decide

/-- The clauses in order: MFE clear; another holder; the draw false; the draw true; not held; held. -/
theorem witness_mcsCommand :
    let m := master 0xA1#8 0#8
    let busy : I2c := { m with controlStatus := 0x40#32 }
    I2c.reset.masterConfig.getLsbD 4 = false ∧ m.masterConfig.getLsbD 4 = true ∧ (3#32).getLsbD 1 = true ∧
      m.controlStatus.getLsbD 6 = false ∧ (busWith .other true 0#8).holder = .other ∧
      (busWith .none false 0#8).holder ≠ .other ∧ (busWith .none false 0#8).drawAcquire = false ∧
      (busWith .none true 0#8).drawAcquire = true ∧ (1#32).getLsbD 1 = false ∧ (busWith .none true 0#8).holder = .none ∧
      busy.masterConfig.getLsbD 4 = true ∧ busy.controlStatus.getLsbD 6 = true ∧ (busWith .self true 0#8).holder ≠ .none := by
  decide

theorem witness_combinedTransfer :
    let s := onI2c (master 0xA0#8 0x55#8) (busWith .none true 0x3C#8)
    s.i2c.masterConfig.getLsbD 4 = true ∧ s.i2c.controlStatus.getLsbD 6 = false ∧ s.bus.holder = .none ∧
      s.bus.drawAcquire = true ∧ (7#32).extractLsb' 0 3 = 7#3 ∧ s.i2c.slaveAddress.getLsbD 0 = false ∧
      (master 0xA1#8 0x55#8).slaveAddress.getLsbD 0 = true := by decide

theorem witness_noTransferWhileAnotherMasterHolds :
    let s := onI2c (master 0xA0#8 0x55#8) (busWith .other true 0#8)
    s.bus.holder = .other ∧ s.i2c.controlStatus.getLsbD 6 = false ∧
      Stimulus.access .write .i2c 0 0x004 4 7#32 ≠ .busLetGo ∧
      (∀ n k, Stimulus.access .write .i2c 0 0x004 4 7#32 ≠ .event 0x4FFE#15 n k) ∧
      ∃ t, StepBy (.access .write .i2c 0 0x004 4 7#32) s t :=
  ⟨by decide, by decide, by decide, by simp, _, rfl, rfl⟩

/-- The hypothesis of FifoPop and of the FIFO laws too. -/
theorem witness_fifoPush :
    1 ≤ Params.default.fifoCap ∧ Params.default.fifoCap ≤ 16 ∧ (0x1000#32).getLsbD 12 = true ∧
      (0x100#32).getLsbD 12 = false := by decide

theorem witness_triggerEvent :
    Params.default.adcTriggerWired = false ∧ { Params.default with adcTriggerWired := true }.adcTriggerWired = true := by
  decide

theorem witness_seventeenthSampleIsDropped :
    Adc.reset.fifo[0].state = 0x100#32 ∧ (List.replicate 16 7#32).length = Params.default.fifoCap := by decide

/-- Empty, full, and 15 samples: head and tail apart. -/
theorem witness_occupancyCountsSamples :
    Params.default.quirks.adcFifoTailUnmasked = false ∧ FifoLegal Params.default 0x100#32 ∧
      FifoLegal Params.default 0x1000#32 ∧ FifoLegal Params.default 0xF0#32 ∧ (0xF0#32).getLsbD 12 = false ∧
      (0x1000#32).getLsbD 8 = false := by
  refine ⟨by decide, ⟨?_, ?_, ?_, ?_, ?_⟩, ⟨?_, ?_, ?_, ?_, ?_⟩, ⟨?_, ?_, ?_, ?_, ?_⟩, ?_, ?_⟩ <;> decide

theorem witness_blockResets :
    0 < State.reset.gptm.length ∧ boardClass Board.fury.did0 = some .fury ∧
      boardClass Board.sandstorm.did0 = some .sandstorm ∧
      boardClass { Board.fury with did0 := 0x20000000#32 }.did0 = none := by decide

theorem witness_resetAllRunsTheResetsInOrder :
    State.reset.hostBlocked = false ∧ boardClass State.reset.ssys.board.did0 ≠ none ∧
      boardClass { Board.fury with did0 := 0x10020000#32 }.did0 = none := by decide

/-- Snapshot 0 of each kind is saved; number 1 is the first that is not. -/
theorem witness_blockRestores :
    let s : State :=
      { onGptm counting with
        saved := { gptm := [counting], ssys := [State.reset.ssys.snapshot], i2c := [I2c.reset], adc := [Adc.reset] } }
    0 < s.gptm.length ∧ s.saved.gptm[(0#32).toNat]? = some counting ∧
      s.saved.ssys[(0#32).toNat]? = some State.reset.ssys.snapshot ∧ s.saved.i2c[(0#32).toNat]? = some I2c.reset ∧
      s.saved.adc[(0#32).toNat]? = some Adc.reset ∧ s.saved.gptm.length ≤ (1#32).toNat ∧
      s.saved.ssys.length ≤ (1#32).toNat ∧ s.saved.i2c.length ≤ (1#32).toNat ∧ s.saved.adc.length ≤ (1#32).toNat :=
  ⟨by decide, rfl, rfl, rfl, rfl, by decide, by decide, by decide, by decide⟩

theorem witness_ssysInv : (onGptm counting).ssys.Inv (onGptm counting).params := ⟨by decide, rfl, by decide⟩

theorem witness_saveThenRestoreChangesNothing :
    let s := onGptm counting
    s.faulted = none ∧ s.hostBlocked = false ∧ s.hasBlock .gptm 0 = true ∧ s.hasBlock .adc 0 = true ∧
      s.saved.gptm.length < 2 ^ 32 ∧ s.saved.ssys.length < 2 ^ 32 ∧ s.saved.i2c.length < 2 ^ 32 ∧
      s.saved.adc.length < 2 ^ 32 := by decide

/-- The clauses in order: back in time; free; exact up to the deadline; exact one past it. -/
theorem witness_advanceFollowsFireTiming :
    let s : State := { onGptm counting with now := 10, params := { Params.default with fireTiming := .exact } }
    9 < s.now ∧ s.now ≤ 80000 ∧ Params.default.fireTiming = .free ∧ s.params.fireTiming = .exact ∧
      (∀ g ∈ s.gptm, (g.armed.a = true → 80000 ≤ g.nextDeadline.a) ∧ (g.armed.b = true → 80000 ≤ g.nextDeadline.b)) ∧
      (∃ g ∈ s.gptm, (g.armed.a = true ∧ g.nextDeadline.a < 80001) ∨ (g.armed.b = true ∧ g.nextDeadline.b < 80001)) := by
  decide

/-- Under `exact` with a deadline at `now`. -/
theorem witness_hostStepsWaitForADueDeadline :
    { onGptm counting with now := 80000, params := { Params.default with fireTiming := .exact } }.hostBlocked = true := by
  decide

/-- A state that is not the reset state, whose next step answers a next state. -/
theorem witness_stepKeepsInvariant :
    ∃ t,
      State.Inv { onGptm counting with now := 80000, pending := [.event 0x0000#15 0 0#32] } ∧
        step { onGptm counting with now := 80000, pending := [.event 0x0000#15 0 0#32] } = .next t := by
  refine ⟨_, ⟨⟨by decide, by decide⟩, ?_, witness_ssysInv, ⟨?_, ?_, ?_, ?_⟩, ⟨?_, ?_, ?_, ?_, ?_, ?_⟩, ?_, ?_, ?_, ?_⟩, rfl⟩
  · intro g hg
    rw [List.mem_singleton.mp hg]
    exact ⟨by decide, by decide, by decide⟩
  · decide
  · decide
  · exact .inl rfl
  · decide
  · decide
  · decide
  · decide
  · decide
  · exact fun n => .inl (by revert n; decide)
  · intro _ n
    have h : ∀ n : Fin 4, Adc.reset.fifo[n].state = 0x100#32 := by decide
    rw [show (onGptm counting).adc.fifo[n].state = 0x100#32 from h n]
    exact ⟨by decide, by decide, by decide, by decide, by decide⟩
  · intro g hg; cases hg
  · intro g hg; cases hg
  · intro g hg; cases hg
  · intro g hg; cases hg

/-- The write of `v` at offset `off` of block `b` takes `s` to a state of which `p` holds. -/
def writeReaches (b : Block) (off : Nat) (v : Word) (s : State) (p : State → Prop) : Prop :=
  ∃ t, StepBy (.access .write b 0 off 4 v) s t ∧ p t

/-- A bit of each status register falls in the write that clears it; of MCS, BUSBSY at a STOP, and ARBLST and ERROR at a
START that acquires. -/
theorem witness_statusBitsFall :
    writeReaches .gptm 0x024 1#32 (onGptm { Gptm.reset with rawStatus := 9#32 })
        (fun t => t.gptm[0]?.map Gptm.rawStatus = some 8#32) ∧
      writeReaches .ssys 0x050 0#32
        { State.reset with ssys := { State.reset.ssys with words := { CatchallWords.reset with ris := 0x40#32 } } }
        (fun t => t.ssys.words.ris = 0#32) ∧
      writeReaches .adc 0x010 1#32 { State.reset with adc := { Adc.reset with overflow := 1#32 } }
        (fun t => t.adc.overflow = 0#32) ∧
      writeReaches .adc 0x018 1#32 { State.reset with adc := { Adc.reset with underflow := 1#32 } }
        (fun t => t.adc.underflow = 0#32) ∧
      writeReaches .adc 0x00C 1#32 { State.reset with adc := { Adc.reset with rawInterruptStatus := 1#32 } }
        (fun t => t.adc.rawInterruptStatus = 0#32) ∧
      writeReaches .i2c 0x01C 1#32 { State.reset with i2c := { I2c.reset with rawInterruptStatus := 1#32 } }
        (fun t => t.i2c.rawInterruptStatus = 0#32) ∧
      writeReaches .i2c 0x004 4#32 (onI2c { master 0#8 0#8 with controlStatus := 0x40#32 } (busWith .self true 0#8))
        (fun t => t.i2c.controlStatus = 0#32) ∧
      writeReaches .i2c 0x004 2#32 (onI2c { master 0#8 0#8 with controlStatus := 0x12#32 } (busWith .none true 0#8))
        (fun t => t.i2c.controlStatus = 0x40#32) := by
  refine ⟨⟨_, ⟨rfl, rfl⟩, ?_⟩, ⟨_, ⟨rfl, rfl⟩, ?_⟩, ⟨_, ⟨rfl, rfl⟩, ?_⟩, ⟨_, ⟨rfl, rfl⟩, ?_⟩, ⟨_, ⟨rfl, rfl⟩, ?_⟩,
    ⟨_, ⟨rfl, rfl⟩, ?_⟩, ⟨_, ⟨rfl, rfl⟩, ?_⟩, ⟨_, ⟨rfl, rfl⟩, ?_⟩⟩ <;> decide

theorem witness_timeParametersAndBoardAreKept :
    ∃ t u, StepBy (.advance 5) State.reset t ∧ StepBy .busTaken State.reset u ∧ ∀ k, Stimulus.busTaken ≠ .advance k :=
  ⟨_, _, ⟨rfl, rfl⟩, ⟨rfl, rfl⟩, fun _ h => by cases h⟩

end Sys2Proof.Tests
end

section
/-! SUPPORT. From a meaning to the statement `WordRuns`: one lemma for each form of access, for an undefined offset, and for
what a GPTM operation that ends in `commitGptm` leaves. -/

namespace Sys2Proof.Machine

/-! ## Register accesses and undefined offsets -/

/-- The word of a GPTM register read returns the register's value and changes nothing else. -/
theorem wordRuns_of_readGptm {n : Nat} {v x : Word} {i : Instr} {s : State} {g : Gptm} {f : Gptm → Word}
    (off : BitVec 12) (hg : s.gptm[n]? = some g) (hrow : gptmReadRow n off.toNat = some i)
    (hx : exec i s = readGptm n f s) (hf : f g = x) :
    WordRuns (accessWord .gptm .read off) n v i s { s with readData := x } :=
  ⟨by rw [decode_accessWord, decodeAccess, hrow]; rfl, hx.trans ((readGptm_eq_next n f s _).mpr ⟨g, hg, by rw [hf]⟩)⟩

/-- The word of a GPTM register write that only stores replaces that timer block and nothing else. -/
theorem wordRuns_of_writeGptm {n : Nat} {v : Word} {i : Instr} {s : State} {g g' : Gptm} {f : Gptm → Gptm}
    (off : BitVec 12) (hg : s.gptm[n]? = some g) (hrow : gptmWriteRow n v off.toNat = some i)
    (hx : exec i s = writeGptm n f s) (hf : f g = g') :
    WordRuns (accessWord .gptm .write off) n v i s { s with gptm := s.gptm.set n g' } :=
  ⟨by rw [decode_accessWord, decodeAccess, hrow]; rfl,
    hx.trans ((writeGptm_eq_next n f s _).mpr ⟨g, hg, by rw [hf]; rfl⟩)⟩

/-- An access word without a row in its block's map runs the undefined-offset operation, which takes that operation's
fault (30_encoding.md R96). -/
theorem wordRuns_of_noRow {b : Block} {d : Dir} {off : BitVec 12} {n : Nat} {v : Word} {i : Instr} {s : State}
    {row : Option Instr} {c : FaultCode} (hrow : row = none) (hd : decodeAccess b d off n v = row.getD i)
    (hx : exec i s = .next { s with faulted := some c }) :
    WordRuns (accessWord b d off) n v i s { s with faulted := some c } :=
  ⟨by rw [decode_accessWord, hd, hrow]; rfl, hx⟩

/-! ## What a GPTM operation commits -/

theorem commitGptm_ok (n : Nat) (g : Gptm) (s : State) :
    commitGptm n g.ok s = .next { s with gptm := s.gptm.set n g } := rfl

theorem commitGptm_raise (n : Nat) (g : Gptm) (c : FaultCode) (s : State) :
    commitGptm n (g.raise c) s = .next { s with gptm := s.gptm.set n g, faulted := some c } := rfl

/-! ## The configuration and the halves -/

theorem combined_eq_true (c : Word) : combined c = true ↔ c < 4#32 := by
  simp [combined, BitVec.lt_def]

theorem combined_eq_false (c : Word) : combined c = false ↔ 4#32 ≤ c := by
  simp [combined, BitVec.le_def]

theorem config_ne_zero {c : Word} (h : 2#32 ≤ c) : c ≠ 0#32 := by
  rintro rfl; exact absurd h (by decide)

theorem config_ne_one {c : Word} (h : 2#32 ≤ c) : c ≠ 1#32 := by
  rintro rfl; exact absurd h (by decide)

/-- The combination of 40_gptm.md R101 as a concatenation. -/
theorem comb_eq_append (p : Pair Half) : comb p = p.b ++ p.a := by
  apply BitVec.eq_of_toNat_eq
  rw [comb_toNat, BitVec.toNat_append, ← Nat.shiftLeft_add_eq_or_of_lt p.a.isLt, Nat.shiftLeft_eq, Nat.add_comm]

/-- A read of a register that is combined while `config < 4` (40_gptm.md R118, R120). -/
theorem readHalves_eq (c : Word) (p : Pair Half) :
    readHalves c p = if c < 4#32 then p.b ++ p.a else p.a.setWidth 32 := by
  simp only [readHalves, combined_eq_true, comb_eq_append, zextHalf]

/-- A write to a register that is combined while `config < 4` (40_gptm.md R136, R138). -/
theorem writeHalves_eq (c : Word) (p : Pair Half) (v : Word) :
    writeHalves c p v = ⟨v.extractLsb' 0 16, if c < 4#32 then v.extractLsb' 16 16 else p.b⟩ := by
  simp only [writeHalves, combined_eq_true, low16, high16]
  split <;> rfl

theorem Pair.set_ite {α : Type} (p : Pair α) (q : Bool) (x : α) :
    p.set (if q then .a else .b) x = if q then ⟨x, p.b⟩ else ⟨p.a, x⟩ := by
  cases q <;> rfl

/-! ## Arm, disarm and reload -/

/-- A channel that was armed and is armed again has only its deadline changed (40_gptm.md R103, R150). -/
theorem Gptm.arm_disarm_of_armed {g : Gptm} {c : Channel} (h : g.armed.get c = true) (t : Nat) :
    (g.disarm c).arm c t = { g with nextDeadline := g.nextDeadline.set c t } := by
  have harmed : (g.armed.set c false).set c true = g.armed := by
    conv_rhs => rw [← Pair.set_get_self g.armed c, h]
    cases c <;> rfl
  simp only [Gptm.arm, Gptm.disarm, harmed]

/-- A reload in countdown mode: one combined load, in units of the scale, after the base (40_gptm.md R102, R103). -/
theorem Gptm.reload_of_countdown {g : Gptm} (h : g.config = 0#32) (p : Params) (scale : Nat) (c : Channel) (base : Nat) :
    g.reload p scale c base = (g.arm c (base + (g.load.a.toNat + g.load.b.toNat * 2 ^ 16) * scale)).ok := by
  rw [Gptm.reload, if_pos h, comb_toNat]

/-- A reload in RTC mode: one second after the base (40_gptm.md R103). -/
theorem Gptm.reload_of_rtc {g : Gptm} (h : g.config = 1#32) (p : Params) (scale : Nat) (c : Channel) (base : Nat) :
    g.reload p scale c base = (g.arm c (base + p.ticksPerSecond)).ok := by
  rw [Gptm.reload, if_neg (by rw [h]; decide), if_pos h]

/-- A countdown channel whose handle was consumed is armed again: only its deadline has changed. -/
theorem Gptm.reload_disarm_of_countdown {g : Gptm} {c : Channel} (hcfg : g.config = 0#32) (harmed : g.armed.get c = true)
    (p : Params) (scale base : Nat) :
    (g.disarm c).reload p scale c base =
      Gptm.ok
        { g with
          nextDeadline := g.nextDeadline.set c (base + (g.load.a.toNat + g.load.b.toNat * 2 ^ 16) * scale) } := by
  rw [Gptm.reload_of_countdown (g := g.disarm c) hcfg, Gptm.arm_disarm_of_armed harmed]
  rfl

/-- An RTC channel whose handle was consumed is armed again: only its deadline has changed. -/
theorem Gptm.reload_disarm_of_rtc {g : Gptm} {c : Channel} (hcfg : g.config = 1#32) (harmed : g.armed.get c = true)
    (p : Params) (scale base : Nat) :
    (g.disarm c).reload p scale c base =
      Gptm.ok { g with nextDeadline := g.nextDeadline.set c (base + p.ticksPerSecond) } := by
  rw [Gptm.reload_of_rtc (g := g.disarm c) hcfg, Gptm.arm_disarm_of_armed harmed]

/-- A reload of a PWM channel on the mode path arms nothing, without the quirk flag (40_gptm.md R103). -/
theorem Gptm.reload_of_pwm {g : Gptm} {p : Params} {c : Channel} (hcfg : 2#32 ≤ g.config)
    (hq : p.quirks.pwmImmediateFire = false) (hm : g.mode.get c = p.pwmSentinel) (scale base : Nat) :
    g.reload p scale c base = g.ok := by
  simp [Gptm.reload, config_ne_zero hcfg, config_ne_one hcfg, hm, hq]

/-- A reload of a channel on the mode path that is not in PWM mode faults (40_gptm.md R103). -/
theorem Gptm.reload_of_badMode {g : Gptm} {p : Params} {c : Channel} (hcfg : 2#32 ≤ g.config)
    (hm : g.mode.get c ≠ p.pwmSentinel) (scale base : Nat) : g.reload p scale c base = g.raise .gptmMode := by
  rw [Gptm.reload, if_neg (config_ne_zero hcfg), if_neg (config_ne_one hcfg), if_neg hm]

/-! ## The CTL write (40_gptm.md R133) -/

/-- The timer block after an enable bit of channel `c` went from `old` to `new` without arming: a 1-to-0 change disarms the
channel, and nothing else changes. -/
def Gptm.disarmOnFall (g : Gptm) (c : Channel) (old new : Bool) : Gptm :=
  { g with armed := g.armed.set c (if old && !new then false else g.armed.get c) }

theorem Gptm.disarmOnFall_of_not_falls {old new : Bool} (h : (old && !new) = false) (g : Gptm) (c : Channel) :
    g.disarmOnFall c old new = g := by
  simp only [Gptm.disarmOnFall, h, Bool.false_eq_true, if_false, Pair.set_get_self]

/-- An enable bit that goes 0 to 1 reloads its channel from `now`. -/
theorem Gptm.enableChange_of_rises {old new : Bool} (h : (!old && new) = true) (p : Params) (scale now : Nat) (c : Channel)
    (g : Gptm) : Gptm.enableChange p scale now c old new g = g.reload p scale c now := by
  obtain ⟨rfl, rfl⟩ : old = false ∧ new = true := by simpa using h
  rfl

/-- An enable bit that does not go 0 to 1 arms nothing. -/
theorem Gptm.enableChange_of_not_rises {old new : Bool} (h : (!old && new) = false) (p : Params) (scale now : Nat)
    (c : Channel) (g : Gptm) : Gptm.enableChange p scale now c old new g = (g.disarmOnFall c old new).ok := by
  obtain ⟨rfl, heq⟩ | ⟨rfl, rfl, _⟩ | ⟨rfl, rfl, heq⟩ := Gptm.enableChange_cases p scale now c old new g
  · rw [heq, Gptm.disarmOnFall_of_not_falls (Bool.and_not_self old)]
  · cases h
  · rw [heq]; rfl

/-- On the mode path an enable bit arms nothing, provided it goes 0 to 1 only where the channel is in PWM mode. -/
theorem Gptm.enableChange_of_pwm (g : Gptm) (c : Channel) {p : Params} {old new : Bool} (hcfg : 2#32 ≤ g.config)
    (hq : p.quirks.pwmImmediateFire = false) (hm : (!old && new) = true → g.mode.get c = p.pwmSentinel) (scale now : Nat) :
    Gptm.enableChange p scale now c old new g = (g.disarmOnFall c old new).ok := by
  cases hr : !old && new with
  | false => exact Gptm.enableChange_of_not_rises hr p scale now c g
  | true =>
    have hfall : (old && !new) = false := by cases old <;> simp_all
    rw [Gptm.enableChange_of_rises hr, Gptm.reload_of_pwm hcfg hq (hm hr), Gptm.disarmOnFall_of_not_falls hfall]

/-- On the mode path an enable bit that goes 0 to 1 faults where the channel is not in PWM mode. -/
theorem Gptm.enableChange_of_badMode (g : Gptm) (c : Channel) {p : Params} {old new : Bool} (hcfg : 2#32 ≤ g.config)
    (hr : (!old && new) = true) (hm : g.mode.get c ≠ p.pwmSentinel) (scale now : Nat) :
    Gptm.enableChange p scale now c old new g = g.raise .gptmMode := by
  rw [Gptm.enableChange_of_rises hr, Gptm.reload_of_badMode hcfg hm]

section WriteControl

variable {p : Params} {scale now : Nat} {g gA : Gptm} {v : Word}

/-- A fault of channel A ends the CTL write. -/
theorem Gptm.writeControl_of_raise {c : FaultCode}
    (hA : Gptm.enableChange p scale now .a (taen g.control) (taen v) { g with control := v } = gA.raise c) :
    g.writeControl p scale now v = gA.raise c := by
  rw [Gptm.writeControl, hA, GptmRun.raise_andThen]

/-- While `config < 4` the CTL write is channel A's part alone. -/
theorem Gptm.writeControl_of_combined
    (hA : Gptm.enableChange p scale now .a (taen g.control) (taen v) { g with control := v } = gA.ok)
    (hcfg : gA.config < 4#32) : g.writeControl p scale now v = gA.ok := by
  rw [Gptm.writeControl, hA, GptmRun.ok_andThen, if_pos ((combined_eq_true _).mpr hcfg)]

/-- While `config >= 4` channel B's part follows on what channel A's part left. -/
theorem Gptm.writeControl_of_split
    (hA : Gptm.enableChange p scale now .a (taen g.control) (taen v) { g with control := v } = gA.ok)
    (hcfg : 4#32 ≤ gA.config) :
    g.writeControl p scale now v = Gptm.enableChange p scale now .b (tben g.control) (tben v) gA := by
  rw [Gptm.writeControl, hA, GptmRun.ok_andThen, (combined_eq_false _).mpr hcfg]
  rfl

end WriteControl

section ControlWord

variable {s : State} {n : Nat} {v : Word} {g g' : Gptm}

theorem execGptmWCtl_eq (hg : s.gptm[n]? = some g) (v : Word) :
    exec (.gptmWCtl n v) s = commitGptm n (g.writeControl s.params s.ssys.systemClockScale s.now v) s :=
  withGptm_some hg _

/-- The CTL word where the write ends without a fault. -/
theorem wordRuns_ctl_of_ok (hg : s.gptm[n]? = some g)
    (h : g.writeControl s.params s.ssys.systemClockScale s.now v = g'.ok) :
    WordRuns 0x100C#16 n v (.gptmWCtl n v) s { s with gptm := s.gptm.set n g' } :=
  ⟨decode_accessWord .gptm .write 0x00C#12 n v, by rw [execGptmWCtl_eq hg, h, commitGptm_ok]⟩

/-- The CTL word where the write ends in a fault: what it wrote before stays (60_exceptions.md R312). -/
theorem wordRuns_ctl_of_raise {c : FaultCode} (hg : s.gptm[n]? = some g)
    (h : g.writeControl s.params s.ssys.systemClockScale s.now v = g'.raise c) :
    WordRuns 0x100C#16 n v (.gptmWCtl n v) s { s with gptm := s.gptm.set n g', faulted := some c } :=
  ⟨decode_accessWord .gptm .write 0x00C#12 n v, by rw [execGptmWCtl_eq hg, h, commitGptm_raise]⟩

end ControlWord

/-! ## The fires (40_gptm.md R150 to R155) -/

/-- `k` triggers in a row, the last one taken apart. -/
theorem Adc.triggers_succ (p : Params) (k : Nat) (a : Adc) : a.triggers p (k + 1) = (a.triggers p k).trigger p := by
  induction k generalizing a with
  | zero => rfl
  | succ k ih => exact ih (a.trigger p)

theorem Adc.triggers_eq_repeat (p : Params) (k : Nat) (a : Adc) :
    a.triggers p k = Nat.repeat (fun x => x.trigger p) k a := by
  induction k with
  | zero => rfl
  | succ k ih => rw [Adc.triggers_succ, ih]; rfl

/-- A fire that is enabled is its body's on the disarmed timer block, after the pulse. -/
theorem fireChannel_of_due {s : State} {n : Nat} {g : Gptm} {c : Channel} (hg : s.gptm[n]? = some g)
    (harmed : g.armed.get c = true) (hdue : g.nextDeadline.get c ≤ s.now) (pulses : Gptm → Bool)
    (body : Gptm → GptmRun) :
    fireChannel n c pulses body s =
      commitGptm n (body (g.disarm c)) (if pulses g then { s with adc := pulseAdc s.params n s.adc } else s) := by
  rw [fireChannel, withGptm_some hg, if_pos ((Gptm.fireEnabled_iff g c s.now).mpr ⟨harmed, hdue⟩)]

/-- No pulse outside the countdown mode (40_gptm.md R153 to R155). -/
theorem Gptm.firePulses_of_config_ne_zero {g : Gptm} (h : g.config ≠ 0#32) : g.firePulses = false := by
  simp [Gptm.firePulses, h]

/-- The pulse of a countdown fire, as an update of the ADC alone (20_memory.md R88). -/
theorem Gptm.firePulses_of_countdown {g : Gptm} (h : g.config = 0#32) (s : State) (n : Nat) :
    (if g.firePulses then { s with adc := pulseAdc s.params n s.adc } else s) =
      { s with
        adc :=
          if g.control.getLsbD 5 && s.params.adcTriggerSources.has n then
            Nat.repeat (fun a => a.trigger s.params) s.params.adcTriggersPerPulse s.adc
          else s.adc } := by
  have hpulse : g.firePulses = g.control.getLsbD 5 := by simp [Gptm.firePulses, taote, bit, h]
  rw [hpulse, pulseAdc, Adc.triggers_eq_repeat]
  cases g.control.getLsbD 5 <;> simp

theorem Gptm.fireBodyA_of_countdown {g : Gptm} (h : g.config = 0#32) (p : Params) (scale : Nat) :
    g.fireBodyA p scale = g.countdownFire p scale := if_pos h

/-- The body of a countdown fire with TAMR bit 0 clear (40_gptm.md R152). -/
theorem Gptm.fireBodyA_of_periodic {g : Gptm} (hcfg : g.config = 0#32) (harmed : g.armed.a = true)
    (hmode : g.mode.a.getLsbD 0 = false) (p : Params) (scale : Nat) :
    (g.disarm .a).fireBodyA p scale =
      Gptm.ok
        { g with
          rawStatus := setTimeout g.rawStatus
          nextDeadline := g.nextDeadline.set .a
            (g.nextDeadline.a + (g.load.a.toNat + g.load.b.toNat * 2 ^ 16) * scale) } := by
  have hreload :=
    Gptm.reload_disarm_of_countdown (g := { g with rawStatus := setTimeout g.rawStatus }) (c := .a) hcfg harmed p scale
      g.nextDeadline.a
  rw [Gptm.fireBodyA_of_countdown (g := g.disarm .a) hcfg]
  exact (if_neg (ne_true_of_eq_false hmode)).trans hreload

/-- The body of a countdown fire with TAMR bit 0 set (40_gptm.md R152). -/
theorem Gptm.fireBodyA_of_oneShot {g : Gptm} (hcfg : g.config = 0#32) (hmode : g.mode.a.getLsbD 0 = true) (p : Params)
    (scale : Nat) :
    (g.disarm .a).fireBodyA p scale =
      Gptm.ok
        { g with
          rawStatus := setTimeout g.rawStatus
          control := clearTaen g.control
          armed := g.armed.set .a false } := by
  rw [Gptm.fireBodyA_of_countdown (g := g.disarm .a) hcfg]
  exact if_pos hmode

/-- The timer block with an RTC tick counted, before it is armed again (40_gptm.md R153). -/
def Gptm.rtcCounted (p : Params) (g : Gptm) : Gptm :=
  let count := g.rtcCounter + 1#32
  let passed := decide (count.toNat > g.matchReg.a.toNat + g.matchReg.b.toNat * 2 ^ 16)
  { g with
    rtcCounter := if passed then 0#32 else count
    rawStatus :=
      if passed || (p.quirks.rtcZeroStatus && decide (count = 0#32)) then setRtcMatch g.rawStatus else g.rawStatus }

/-- The body of an RTC fire (40_gptm.md R153). -/
theorem Gptm.fireBodyA_of_rtc {g : Gptm} (hcfg : g.config = 1#32) (harmed : g.armed.a = true) (p : Params) (scale : Nat) :
    (g.disarm .a).fireBodyA p scale =
      Gptm.ok
        { g.rtcCounted p with
          nextDeadline := g.nextDeadline.set .a (g.nextDeadline.a + p.ticksPerSecond) } := by
  have hfire : (g.disarm .a).fireBodyA p scale = (g.disarm .a).rtcTick p scale := by
    rw [Gptm.fireBodyA, Gptm.disarm_config, if_neg (by rw [hcfg]; decide), if_pos hcfg]
  rw [hfire, Gptm.rtcTick, comb_toNat]
  exact Gptm.reload_disarm_of_rtc (g := g.rtcCounted p) (c := .a) hcfg harmed ..

/-- The body of a channel-A fire on the mode path (40_gptm.md R154, R155). -/
theorem Gptm.fireBodyA_of_modePath {g : Gptm} (hcfg : 2#32 ≤ g.config) (p : Params) (scale : Nat) :
    g.fireBodyA p scale = g.modeFire p .a := by
  rw [Gptm.fireBodyA, if_neg (config_ne_zero hcfg), if_neg (config_ne_one hcfg)]

section FireWords

variable {s : State} {n : Nat} {k : Word} {g g' : Gptm}

/-- The word of a channel-A fire in countdown mode whose body ends without a fault. -/
theorem wordRuns_fireA_of_countdown (hg : s.gptm[n]? = some g) (harmed : g.armed.a = true)
    (hdue : g.nextDeadline.a ≤ s.now) (hcfg : g.config = 0#32)
    (h : (g.disarm .a).fireBodyA s.params s.ssys.systemClockScale = g'.ok) :
    WordRuns 0x8000#16 n k (.gptmEvFireA n) s
      { s with
        adc :=
          if g.control.getLsbD 5 && s.params.adcTriggerSources.has n then
            Nat.repeat (fun a => a.trigger s.params) s.params.adcTriggersPerPulse s.adc
          else s.adc
        gptm := s.gptm.set n g' } := by
  refine ⟨decode_eventWord .gptm 0x000#12 n k, (fireChannel_of_due (c := .a) hg harmed hdue _ _).trans ?_⟩
  rw [Gptm.firePulses_of_countdown hcfg, h, commitGptm_ok]

theorem execGptmEvFireA_of_noPulse (hg : s.gptm[n]? = some g) (harmed : g.armed.a = true) (hdue : g.nextDeadline.a ≤ s.now)
    (hcfg : g.config ≠ 0#32) :
    exec (.gptmEvFireA n) s = commitGptm n ((g.disarm .a).fireBodyA s.params s.ssys.systemClockScale) s := by
  refine (fireChannel_of_due (c := .a) hg harmed hdue _ _).trans ?_
  rw [Gptm.firePulses_of_config_ne_zero hcfg]
  rfl

/-- The word of a channel-A fire outside the countdown mode whose body ends without a fault. -/
theorem wordRuns_fireA_of_ok (hg : s.gptm[n]? = some g) (harmed : g.armed.a = true) (hdue : g.nextDeadline.a ≤ s.now)
    (hcfg : g.config ≠ 0#32) (h : (g.disarm .a).fireBodyA s.params s.ssys.systemClockScale = g'.ok) :
    WordRuns 0x8000#16 n k (.gptmEvFireA n) s { s with gptm := s.gptm.set n g' } :=
  ⟨decode_eventWord .gptm 0x000#12 n k, by rw [execGptmEvFireA_of_noPulse hg harmed hdue hcfg, h, commitGptm_ok]⟩

/-- The word of a channel-A fire outside the countdown mode whose body ends in a fault. -/
theorem wordRuns_fireA_of_raise {c : FaultCode} (hg : s.gptm[n]? = some g) (harmed : g.armed.a = true)
    (hdue : g.nextDeadline.a ≤ s.now) (hcfg : g.config ≠ 0#32)
    (h : (g.disarm .a).fireBodyA s.params s.ssys.systemClockScale = g'.raise c) :
    WordRuns 0x8000#16 n k (.gptmEvFireA n) s { s with gptm := s.gptm.set n g', faulted := some c } :=
  ⟨decode_eventWord .gptm 0x000#12 n k, by rw [execGptmEvFireA_of_noPulse hg harmed hdue hcfg, h, commitGptm_raise]⟩

theorem execGptmEvFireB_of_due (hg : s.gptm[n]? = some g) (harmed : g.armed.b = true) (hdue : g.nextDeadline.b ≤ s.now) :
    exec (.gptmEvFireB n) s = commitGptm n ((g.disarm .b).fireBodyB s.params) s :=
  fireChannel_of_due (c := .b) hg harmed hdue _ _

/-- The word of a channel-B fire whose body ends without a fault. -/
theorem wordRuns_fireB_of_ok (hg : s.gptm[n]? = some g) (harmed : g.armed.b = true) (hdue : g.nextDeadline.b ≤ s.now)
    (h : (g.disarm .b).fireBodyB s.params = g'.ok) :
    WordRuns 0x8001#16 n k (.gptmEvFireB n) s { s with gptm := s.gptm.set n g' } :=
  ⟨decode_eventWord .gptm 0x001#12 n k, by rw [execGptmEvFireB_of_due hg harmed hdue, h, commitGptm_ok]⟩

/-- The word of a channel-B fire whose body ends in a fault. -/
theorem wordRuns_fireB_of_raise {c : FaultCode} (hg : s.gptm[n]? = some g) (harmed : g.armed.b = true)
    (hdue : g.nextDeadline.b ≤ s.now) (h : (g.disarm .b).fireBodyB s.params = g'.raise c) :
    WordRuns 0x8001#16 n k (.gptmEvFireB n) s { s with gptm := s.gptm.set n g', faulted := some c } :=
  ⟨decode_eventWord .gptm 0x001#12 n k, by rw [execGptmEvFireB_of_due hg harmed hdue, h, commitGptm_raise]⟩

end FireWords

/-- PWM does nothing on the mode path (40_gptm.md R154). -/
theorem Gptm.modeFire_of_pwm {p : Params} {g : Gptm} {c : Channel} (h : g.mode.get c = p.pwmSentinel) :
    g.modeFire p c = g.ok := if_pos h

/-- Any other mode faults (40_gptm.md R155). -/
theorem Gptm.modeFire_of_badMode {p : Params} {g : Gptm} {c : Channel} (h : g.mode.get c ≠ p.pwmSentinel) :
    g.modeFire p c = g.raise .gptmMode := if_neg h

/-- Channel B's fire while `config < 4` faults for that first (40_gptm.md R151). -/
theorem Gptm.fireBodyB_of_combined {g : Gptm} (h : g.config < 4#32) (p : Params) :
    g.fireBodyB p = g.raise .gptmReconfig := if_pos ((combined_eq_true _).mpr h)

theorem Gptm.fireBodyB_of_split {g : Gptm} (h : 4#32 ≤ g.config) (p : Params) : g.fireBodyB p = g.modeFire p .b :=
  if_neg (ne_true_of_eq_false ((combined_eq_false _).mpr h))

end Sys2Proof.Machine
end

section
/-! The statements of the GPTM family, each from the lemmas above. -/

namespace Sys2Proof.Proofs

open Sys2Proof.Machine

/-- Settles O8: each map has no row at the offset, so the access decodes to the undefined-offset operation. -/
theorem undefinedOffsetsFault : Obligations.UndefinedOffsetsFault := by
  intro s n off v
  refine ⟨fun hn h => ⟨?_, ?_⟩, fun h => ⟨?_, ?_⟩, fun h => ⟨?_, ?_⟩, fun h => ⟨?_, ?_⟩⟩
  · exact wordRuns_of_noRow ((gptmReadRow_eq_none n _).mpr h) rfl ((faultGptm_eq_next ..).mpr ⟨hn, rfl⟩)
  · exact wordRuns_of_noRow ((gptmWriteRow_eq_none n v _).mpr h) rfl ((faultGptm_eq_next ..).mpr ⟨hn, rfl⟩)
  · exact wordRuns_of_noRow ((ssysReadRow_eq_none _).mpr h) rfl rfl
  · exact wordRuns_of_noRow ((ssysWriteRow_eq_none v _).mpr h) rfl rfl
  · exact wordRuns_of_noRow ((i2cReadRow_eq_none _).mpr h) rfl rfl
  · exact wordRuns_of_noRow ((i2cWriteRow_eq_none v _).mpr h) rfl rfl
  · exact wordRuns_of_noRow ((adcReadRow_eq_none _).mpr h) rfl rfl
  · exact wordRuns_of_noRow ((adcWriteRow_eq_none v _).mpr h) rfl rfl

/-- Settles O14: the cases of channel A's enable bit, then, while `config >= 4`, those of channel B's. -/
theorem controlWrite : Obligations.ControlWrite := by
  intro s n v g hg hq rises falls afterA afterB
  refine ⟨fun hcfg => ?_, fun hcfg => ?_⟩
  · have hlt : g.config < 4#32 := by rcases hcfg with h | h <;> rw [h] <;> decide
    refine ⟨fun hr => ?_, fun hr => ?_⟩
    · exact wordRuns_ctl_of_ok hg (Gptm.writeControl_of_combined (Gptm.enableChange_of_not_rises hr ..) hlt)
    · refine wordRuns_ctl_of_ok hg (Gptm.writeControl_of_combined ((Gptm.enableChange_of_rises hr ..).trans ?_) hlt)
      rcases hcfg with h0 | h1
      · rw [if_pos h0]
        exact Gptm.reload_of_countdown (g := { g with control := v }) h0 ..
      · rw [if_neg (by rw [h1]; decide)]
        exact Gptm.reload_of_rtc (g := { g with control := v }) h1 ..
  · have hA (hm : rises 0 = true → g.mode.a = s.params.pwmSentinel) :
        Gptm.enableChange s.params s.ssys.systemClockScale s.now .a (taen g.control) (taen v) { g with control := v } =
          afterA.ok :=
      Gptm.enableChange_of_pwm { g with control := v } .a hcfg hq hm ..
    refine ⟨fun hr hm => ?_, fun hm hlt => ?_, fun hm hge hr hmB => ?_, fun hm hge hmB => ?_⟩
    · exact wordRuns_ctl_of_raise hg
        (Gptm.writeControl_of_raise (Gptm.enableChange_of_badMode { g with control := v } .a hcfg hr hm ..))
    · exact wordRuns_ctl_of_ok hg (Gptm.writeControl_of_combined (hA hm) hlt)
    · exact wordRuns_ctl_of_raise hg
        ((Gptm.writeControl_of_split (hA hm) hge).trans (Gptm.enableChange_of_badMode afterA .b hcfg hr hmB ..))
    · exact wordRuns_ctl_of_ok hg
        ((Gptm.writeControl_of_split (hA hm) hge).trans (Gptm.enableChange_of_pwm afterA .b hcfg hq hmB ..))

/-- Settles O18: the body of a fire on the mode path, on the timer block with the handle consumed. -/
theorem modePathFires : Obligations.ModePathFires := by
  intro s n k g hg offA offB
  refine ⟨fun harmed hdue hcfg => ?_, fun harmed hdue => ?_⟩
  · have hbody := Gptm.fireBodyA_of_modePath (g := g.disarm .a) hcfg s.params s.ssys.systemClockScale
    refine ⟨fun hm => ?_, fun hm => ?_⟩
    · exact wordRuns_fireA_of_ok hg harmed hdue (config_ne_zero hcfg) (hbody.trans (Gptm.modeFire_of_pwm hm))
    · exact wordRuns_fireA_of_raise hg harmed hdue (config_ne_zero hcfg) (hbody.trans (Gptm.modeFire_of_badMode hm))
  · have hbody (hge : 4#32 ≤ g.config) := Gptm.fireBodyB_of_split (g := g.disarm .b) hge s.params
    refine ⟨fun hlt => ?_, fun hge hm => ?_, fun hge hm => ?_⟩
    · exact wordRuns_fireB_of_raise hg harmed hdue (Gptm.fireBodyB_of_combined (g := g.disarm .b) hlt s.params)
    · exact wordRuns_fireB_of_ok hg harmed hdue ((hbody hge).trans (Gptm.modeFire_of_pwm hm))
    · exact wordRuns_fireB_of_raise hg harmed hdue ((hbody hge).trans (Gptm.modeFire_of_badMode hm))

/-- Settles O9: each word is a register read. -/
theorem gptmConfigurationAndStatusReads : Obligations.GptmConfigurationAndStatusReads := by
  intro s n v g hg
  exact
    ⟨wordRuns_of_readGptm 0x000#12 hg rfl rfl rfl,
      wordRuns_of_readGptm 0x004#12 hg rfl rfl rfl,
      wordRuns_of_readGptm 0x008#12 hg rfl rfl rfl,
      wordRuns_of_readGptm 0x00C#12 hg rfl rfl rfl,
      wordRuns_of_readGptm 0x018#12 hg rfl rfl rfl,
      wordRuns_of_readGptm 0x01C#12 hg rfl rfl rfl,
      wordRuns_of_readGptm 0x020#12 hg rfl rfl rfl,
      wordRuns_of_readGptm 0x024#12 hg rfl rfl rfl⟩

/-- Settles O10: each word is a register read; TAILR and TAMATCHR return the combined value by `readHalves_eq`. -/
theorem gptmLoadMatchAndPrescaleReads : Obligations.GptmLoadMatchAndPrescaleReads := by
  intro s n v g hg
  exact
    ⟨wordRuns_of_readGptm 0x028#12 hg rfl rfl (readHalves_eq ..),
      wordRuns_of_readGptm 0x02C#12 hg rfl rfl rfl,
      wordRuns_of_readGptm 0x030#12 hg rfl rfl (readHalves_eq ..),
      wordRuns_of_readGptm 0x034#12 hg rfl rfl rfl,
      wordRuns_of_readGptm 0x038#12 hg rfl rfl rfl,
      wordRuns_of_readGptm 0x03C#12 hg rfl rfl rfl,
      wordRuns_of_readGptm 0x040#12 hg rfl rfl rfl,
      wordRuns_of_readGptm 0x044#12 hg rfl rfl rfl⟩

/-- Settles O12: each word is a write that only stores. -/
theorem gptmConfigurationAndStatusWrites : Obligations.GptmConfigurationAndStatusWrites := by
  intro s n v g hg
  exact
    ⟨wordRuns_of_writeGptm 0x000#12 hg rfl rfl rfl,
      wordRuns_of_writeGptm 0x004#12 hg rfl rfl rfl,
      wordRuns_of_writeGptm 0x008#12 hg rfl rfl rfl,
      wordRuns_of_writeGptm 0x018#12 hg rfl rfl rfl,
      wordRuns_of_writeGptm 0x024#12 hg rfl rfl rfl⟩

/-- Settles O13: each word is a write that only stores; TAILR and TAMATCHR split the data by `writeHalves_eq`, TBPMR picks
its channel by `Pair.set_ite`. -/
theorem gptmLoadMatchAndPrescaleWrites : Obligations.GptmLoadMatchAndPrescaleWrites := by
  intro s n v g hg
  exact
    ⟨wordRuns_of_writeGptm 0x028#12 hg rfl rfl (by rw [writeHalves_eq]),
      wordRuns_of_writeGptm 0x02C#12 hg rfl rfl rfl,
      wordRuns_of_writeGptm 0x030#12 hg rfl rfl (by rw [writeHalves_eq]),
      wordRuns_of_writeGptm 0x034#12 hg rfl rfl rfl,
      wordRuns_of_writeGptm 0x038#12 hg rfl rfl rfl,
      wordRuns_of_writeGptm 0x03C#12 hg rfl rfl rfl,
      wordRuns_of_writeGptm 0x040#12 hg rfl rfl rfl,
      wordRuns_of_writeGptm 0x044#12 hg rfl rfl (by rw [Pair.set_ite])⟩

/-- Settles O16: the body of a countdown fire, one-shot or periodic, after the pulse. -/
theorem countdownFire : Obligations.CountdownFire := by
  intro s n k g hg harmed hdue hcfg adc
  refine ⟨fun hmode => ?_, fun hmode => ?_⟩
  · exact wordRuns_fireA_of_countdown hg harmed hdue hcfg (Gptm.fireBodyA_of_oneShot hcfg hmode ..)
  · exact wordRuns_fireA_of_countdown hg harmed hdue hcfg (Gptm.fireBodyA_of_periodic hcfg harmed hmode ..)

/-- Settles O17: the body of an RTC fire; outside the countdown mode there is no pulse. -/
theorem rtcFire : Obligations.RtcFire := by
  intro s n k g hg harmed hdue hcfg count passed zero
  exact wordRuns_fireA_of_ok hg harmed hdue (by rw [hcfg]; decide) (Gptm.fireBodyA_of_rtc hcfg harmed ..)

end Sys2Proof.Proofs
end

section
/-! SUPPORT. From the meaning of an SSYS register access to the statement `WordRuns`, one lemma for each form, and the clock
scale and the CLKCFG value on the registers' values. -/

namespace Sys2Proof.Machine

/-! ## Register accesses -/

section SsysWords

variable {n : Nat} {v : Word} {i : Instr} {s : State} (off : BitVec 12)

theorem decode_ssysRead (hrow : ssysReadRow off.toNat = some i) :
    decode ⟨accessWord .ssys .read off, n, v⟩ = .ok i := by
  rw [decode_accessWord, decodeAccess, hrow]; rfl

theorem decode_ssysWrite (hrow : ssysWriteRow v off.toNat = some i) :
    decode ⟨accessWord .ssys .write off, n, v⟩ = .ok i := by
  rw [decode_accessWord, decodeAccess, hrow]; rfl

/-- The word of an SSYS register read returns the register's value and changes nothing else. -/
theorem wordRuns_of_ssysRead {x : Word} (hrow : ssysReadRow off.toNat = some i) (hx : exec i s = returnValue x s) :
    WordRuns (accessWord .ssys .read off) n v i s { s with readData := x } :=
  ⟨decode_ssysRead off hrow, hx.trans ((returnValue_eq_next x s _).mpr rfl)⟩

/-- The word of a catch-all read returns that catch-all word and changes nothing else (41_ssys.md R195). -/
theorem wordRuns_of_readCatchall {x : Word} (r : CatchallReg) (hrow : ssysReadRow off.toNat = some i)
    (hx : exec i s = readCatchall r s) (hr : s.ssys.words.get r = x) :
    WordRuns (accessWord .ssys .read off) n v i s { s with readData := x } :=
  ⟨decode_ssysRead off hrow, hx.trans ((readCatchall_eq_next r s _).mpr (by rw [hr]))⟩

/-- The word of an SSYS register write replaces the SSYS state by what is stored, recomputed, and nothing else
(41_ssys.md R183). -/
theorem wordRuns_of_writeSsys {y : Ssys} (f : Ssys → Ssys) (hrow : ssysWriteRow v off.toNat = some i)
    (hx : exec i s = writeSsys f s) (hf : (f s.ssys).recompute s.params = y) :
    WordRuns (accessWord .ssys .write off) n v i s { s with ssys := y } :=
  ⟨decode_ssysWrite off hrow, hx.trans ((writeSsys_eq_next f s _).mpr (by rw [hf]))⟩

/-- The word of a catch-all write stores the data in that catch-all word and recomputes the scale (41_ssys.md R205). -/
theorem wordRuns_of_writeCatchall {x : CatchallWords} (r : CatchallReg) (hrow : ssysWriteRow v off.toNat = some i)
    (hx : exec i s = writeCatchall r v s) (hr : s.ssys.words.set r v = x) :
    WordRuns (accessWord .ssys .write off) n v i s
      { s with
        ssys := { s.ssys with words := x, systemClockScale := clockScale s.params s.ssys.rccControl s.ssys.rcc2 } } :=
  ⟨decode_ssysWrite off hrow, hx.trans ((writeCatchall_eq_next r v s _).mpr (by rw [hr, Ssys.recompute]))⟩

/-- The word of an SSYS write that always faults records the fault and changes nothing else. -/
theorem wordRuns_of_ssysWriteFault {c : FaultCode} (hrow : ssysWriteRow v off.toNat = some i)
    (hx : exec i s = takeFault c s) :
    WordRuns (accessWord .ssys .write off) n v i s { s with faulted := some c } :=
  ⟨decode_ssysWrite off hrow, hx.trans ((takeFault_eq_next c s _).mpr rfl)⟩

end SsysWords

/-! ## The clock scale and the stored values -/

/-- Bit 31 of a word, on its value. -/
theorem usercc2_eq_true (c : Word) : usercc2 c = true ↔ 2 ^ 31 ≤ c.toNat := by
  have hmsb : usercc2 c = c.msb := rfl
  rw [hmsb, BitVec.msb_eq_decide, decide_eq_true_iff]

theorem sysdiv_toNat (r : Word) : (sysdiv r).toNat = r.toNat / 2 ^ 23 % 16 := by
  rw [sysdiv, BitVec.extractLsb'_toNat, Nat.shiftRight_eq_div_pow]

theorem sysdiv2_toNat (c : Word) : (sysdiv2 c).toNat = c.toNat / 2 ^ 23 % 64 := by
  rw [sysdiv2, BitVec.extractLsb'_toNat, Nat.shiftRight_eq_div_pow]

/-- The selected divisor field on the registers' values (41_ssys.md R180, R181). -/
theorem divisorField_eq (r c : Word) :
    divisorField r c = if 2 ^ 31 ≤ c.toNat then c.toNat / 2 ^ 23 % 64 else r.toNat / 2 ^ 23 % 16 := by
  simp only [divisorField, usercc2_eq_true, sysdiv_toNat, sysdiv2_toNat]

/-- The CLKCFG value as a concatenation: SEL_REQ, bits 1:0, stands in SEL_CUR, bits 3:2, too (41_ssys.md R203). -/
theorem clkcfgValue_eq_append (v : Word) :
    clkcfgValue v = v.extractLsb' 4 28 ++ v.extractLsb' 0 2 ++ v.extractLsb' 0 2 := by
  apply BitVec.eq_of_getLsbD_eq
  intro k hk
  simp only [clkcfgValue, BitVec.getLsbD_append]
  interval_cases k <;> simp

/-- The RCC write after the recomputation, all its fields at once (41_ssys.md R202). -/
theorem Ssys.recompute_writeRcc (p : Params) (y : Ssys) (v : Word) :
    (y.writeRcc v).recompute p =
      { y with
        rccControl := v
        words :=
          { y.words with
            ris := if y.rccControl.getLsbD 13 && !v.getLsbD 13 then y.words.ris ||| 0x40#32 else y.words.ris }
        systemClockScale := clockScale p v y.rcc2 } :=
  congrArg (fun w => ({ y with rccControl := v, words := w, systemClockScale := clockScale p v y.rcc2 } : Ssys))
    (Ssys.writeRcc_words y v)

/-- The CLKCFG write after the recomputation (41_ssys.md R203). -/
theorem Ssys.recompute_clkcfgValue (p : Params) (y : Ssys) (v : Word) :
    ({ y with rccConfig := clkcfgValue v } : Ssys).recompute p =
      { y with
        rccConfig := v.extractLsb' 4 28 ++ v.extractLsb' 0 2 ++ v.extractLsb' 0 2
        systemClockScale := clockScale p y.rccControl y.rcc2 } := by
  rw [clkcfgValue_eq_append]; rfl

end Sys2Proof.Machine
end

section
/-! The statements of the SSYS family, each from the lemmas above. -/

namespace Sys2Proof.Proofs

open Sys2Proof.Machine

/-- Settles O31: both words are register writes; what is stored and recomputed is `Ssys.recompute_writeRcc` and
`Ssys.recompute_clkcfgValue`. -/
theorem rccAndClkcfgWrites : Obligations.RccAndClkcfgWrites := by
  intro s n v
  exact
    ⟨wordRuns_of_writeSsys 0x060#12 (fun y => y.writeRcc v) rfl rfl (Ssys.recompute_writeRcc s.params s.ssys v),
      wordRuns_of_writeSsys 0x068#12 (fun y => { y with rccConfig := clkcfgValue v }) rfl rfl
        (Ssys.recompute_clkcfgValue s.params s.ssys v)⟩

/-- Settles O24, by the divisor field on the registers' values. -/
theorem clockScaleFormula : Obligations.ClockScaleFormula := by
  intro p y
  rw [Ssys.recompute, clockScale, divisorField_eq]

/-- Settles O27: each word is a register read. -/
theorem ssysRegisterReads : Obligations.SsysRegisterReads := by
  intro s n v
  exact
    ⟨wordRuns_of_ssysRead 0x000#12 rfl rfl,
      wordRuns_of_ssysRead 0x004#12 rfl rfl,
      wordRuns_of_ssysRead 0x008#12 rfl rfl,
      wordRuns_of_ssysRead 0x010#12 rfl rfl,
      wordRuns_of_ssysRead 0x014#12 rfl rfl,
      wordRuns_of_ssysRead 0x018#12 rfl rfl,
      wordRuns_of_ssysRead 0x01C#12 rfl rfl,
      wordRuns_of_ssysRead 0x060#12 rfl rfl,
      wordRuns_of_ssysRead 0x068#12 rfl rfl,
      wordRuns_of_ssysRead 0x070#12 rfl rfl⟩

/-- Settles O28: each word is the read of one catch-all register. -/
theorem ssysCatchallReads : Obligations.SsysCatchallReads := by
  intro s n v
  exact
    ⟨wordRuns_of_readCatchall 0x030#12 .pborctl rfl rfl rfl,
      wordRuns_of_readCatchall 0x034#12 .ldopctl rfl rfl rfl,
      wordRuns_of_readCatchall 0x040#12 .srcr0 rfl rfl rfl,
      wordRuns_of_readCatchall 0x044#12 .srcr1 rfl rfl rfl,
      wordRuns_of_readCatchall 0x048#12 .srcr2 rfl rfl rfl,
      wordRuns_of_readCatchall 0x050#12 .ris rfl rfl rfl,
      wordRuns_of_readCatchall 0x054#12 .imc rfl rfl rfl,
      wordRuns_of_readCatchall 0x058#12 .misc rfl rfl rfl,
      wordRuns_of_readCatchall 0x05C#12 .resc rfl rfl rfl,
      wordRuns_of_readCatchall 0x100#12 .rcgc0 rfl rfl rfl,
      wordRuns_of_readCatchall 0x104#12 .rcgc1 rfl rfl rfl,
      wordRuns_of_readCatchall 0x108#12 .rcgc2 rfl rfl rfl,
      wordRuns_of_readCatchall 0x110#12 .scgc0 rfl rfl rfl,
      wordRuns_of_readCatchall 0x114#12 .scgc1 rfl rfl rfl,
      wordRuns_of_readCatchall 0x118#12 .scgc2 rfl rfl rfl,
      wordRuns_of_readCatchall 0x120#12 .dcgc0 rfl rfl rfl,
      wordRuns_of_readCatchall 0x124#12 .dcgc1 rfl rfl rfl,
      wordRuns_of_readCatchall 0x128#12 .dcgc2 rfl rfl rfl,
      wordRuns_of_readCatchall 0x150#12 .clkvclr rfl rfl rfl,
      wordRuns_of_readCatchall 0x160#12 .ldoarst rfl rfl rfl,
      wordRuns_of_readCatchall 0x1E0#12 .user0 rfl rfl rfl,
      wordRuns_of_readCatchall 0x1E4#12 .user1 rfl rfl rfl⟩

/-- Settles O29: each word is the write of one catch-all register. -/
theorem ssysCatchallWrites : Obligations.SsysCatchallWrites := by
  intro s n v w stored
  exact
    ⟨wordRuns_of_writeCatchall 0x030#12 .pborctl rfl rfl rfl,
      wordRuns_of_writeCatchall 0x034#12 .ldopctl rfl rfl rfl,
      wordRuns_of_writeCatchall 0x040#12 .srcr0 rfl rfl rfl,
      wordRuns_of_writeCatchall 0x044#12 .srcr1 rfl rfl rfl,
      wordRuns_of_writeCatchall 0x048#12 .srcr2 rfl rfl rfl,
      wordRuns_of_writeCatchall 0x050#12 .ris rfl rfl rfl,
      wordRuns_of_writeCatchall 0x054#12 .imc rfl rfl rfl,
      wordRuns_of_writeCatchall 0x058#12 .misc rfl rfl rfl,
      wordRuns_of_writeCatchall 0x05C#12 .resc rfl rfl rfl,
      wordRuns_of_writeCatchall 0x100#12 .rcgc0 rfl rfl rfl,
      wordRuns_of_writeCatchall 0x104#12 .rcgc1 rfl rfl rfl,
      wordRuns_of_writeCatchall 0x108#12 .rcgc2 rfl rfl rfl,
      wordRuns_of_writeCatchall 0x110#12 .scgc0 rfl rfl rfl,
      wordRuns_of_writeCatchall 0x114#12 .scgc1 rfl rfl rfl,
      wordRuns_of_writeCatchall 0x118#12 .scgc2 rfl rfl rfl,
      wordRuns_of_writeCatchall 0x120#12 .dcgc0 rfl rfl rfl,
      wordRuns_of_writeCatchall 0x124#12 .dcgc1 rfl rfl rfl,
      wordRuns_of_writeCatchall 0x128#12 .dcgc2 rfl rfl rfl,
      wordRuns_of_writeCatchall 0x150#12 .clkvclr rfl rfl rfl,
      wordRuns_of_writeCatchall 0x160#12 .ldoarst rfl rfl rfl,
      wordRuns_of_writeCatchall 0x1E0#12 .user0 rfl rfl rfl,
      wordRuns_of_writeCatchall 0x1E4#12 .user1 rfl rfl rfl⟩

/-- Settles O30: each word is a write that always faults. -/
theorem ssysReadOnlyWritesFault : Obligations.SsysReadOnlyWritesFault := by
  intro s n v
  exact
    ⟨wordRuns_of_ssysWriteFault 0x000#12 rfl rfl,
      wordRuns_of_ssysWriteFault 0x004#12 rfl rfl,
      wordRuns_of_ssysWriteFault 0x008#12 rfl rfl,
      wordRuns_of_ssysWriteFault 0x010#12 rfl rfl,
      wordRuns_of_ssysWriteFault 0x014#12 rfl rfl,
      wordRuns_of_ssysWriteFault 0x018#12 rfl rfl,
      wordRuns_of_ssysWriteFault 0x01C#12 rfl rfl⟩

end Sys2Proof.Proofs
end

section
/-! SUPPORT. From the meaning of an I2C register access to the statement `WordRuns`, one lemma for each form, and the three
branches of an MCR write. -/

namespace Sys2Proof.Machine

/-! ## Register accesses -/

section I2cWords

variable {n : Nat} {v : Word} {i : Instr} {s t : State} (b : Block) (d : Dir) (off : BitVec 12)

/-- The word of an access runs the operation its offset decodes to (30_encoding.md R91). -/
theorem wordRuns_of_access (hd : decodeAccess b d off n v = i) (hx : exec i s = .next t) :
    WordRuns (accessWord b d off) n v i s t :=
  ⟨by rw [decode_accessWord, hd], hx⟩

/-- The word of an access that faults records the fault and changes nothing else (60_exceptions.md R312). -/
theorem wordRuns_of_accessFault {c : FaultCode} (hd : decodeAccess b d off n v = i) (hx : exec i s = takeFault c s) :
    WordRuns (accessWord b d off) n v i s { s with faulted := some c } :=
  wordRuns_of_access b d off hd (hx.trans ((takeFault_eq_next c s _).mpr rfl))

/-- The word of an I2C register read returns the register's value and changes nothing else. -/
theorem wordRuns_of_readI2c {x : Word} (f : I2c → Word) (hd : decodeAccess .i2c .read off n v = i)
    (hx : exec i s = readI2c f s) (hf : f s.i2c = x) :
    WordRuns (accessWord .i2c .read off) n v i s { s with readData := x } :=
  wordRuns_of_access .i2c .read off hd (hx.trans ((readI2c_eq_next f s _).mpr (by rw [hf])))

/-- The word of an I2C register write that only stores replaces the I2C registers and nothing else. -/
theorem wordRuns_of_writeI2c {x : I2c} (f : I2c → I2c) (hd : decodeAccess .i2c .write off n v = i)
    (hx : exec i s = writeI2c f s) (hf : f s.i2c = x) :
    WordRuns (accessWord .i2c .write off) n v i s { s with i2c := x } :=
  wordRuns_of_access .i2c .write off hd (hx.trans ((writeI2c_eq_next f s _).mpr (by rw [hf])))

end I2cWords

/-! ## The MCR write (42_i2c.md R248) -/

section McrWrite

variable {v : Word}

theorem execI2cWMcr_of_loopback (h0 : v.getLsbD 0 = true) (s : State) :
    execI2cWMcr v s = takeFault .i2cLoopback s :=
  if_pos h0

theorem execI2cWMcr_of_slaveMode (h0 : v.getLsbD 0 = false) (h5 : v.getLsbD 5 = true) (s : State) :
    execI2cWMcr v s = takeFault .i2cSlaveMode s :=
  (if_neg (Bool.eq_false_iff.mp h0)).trans (if_pos h5)

theorem execI2cWMcr_of_legal (h0 : v.getLsbD 0 = false) (h5 : v.getLsbD 5 = false) (s : State) :
    execI2cWMcr v s = writeI2c (fun x => { x with masterConfig := v &&& Config.mcrMask }) s :=
  (if_neg (Bool.eq_false_iff.mp h0)).trans (if_neg (Bool.eq_false_iff.mp h5))

/-- Of the three bits the MCR mask keeps, only MFE is left when LPBK and SFE are clear. -/
theorem and_mcrMask_of_legal (h0 : v.getLsbD 0 = false) (h5 : v.getLsbD 5 = false) :
    v &&& Config.mcrMask = v &&& 0x10#32 := by
  have hmask : ∀ k < 32, k ≠ 0 → k ≠ 5 → Config.mcrMask.getLsbD k = (0x10#32).getLsbD k := by decide
  refine BitVec.eq_of_getLsbD_eq fun k hk => ?_
  rw [BitVec.getLsbD_and, BitVec.getLsbD_and]
  by_cases hk0 : k = 0
  · rw [hk0, h0, Bool.false_and, Bool.false_and]
  · by_cases hk5 : k = 5
    · rw [hk5, h5, Bool.false_and, Bool.false_and]
    · rw [hmask k hk hk0 hk5]

end McrWrite

end Sys2Proof.Machine
end

section
/-! The statements of the I2C family, each from the lemmas above. -/

namespace Sys2Proof.Proofs

open Sys2Proof.Machine

/-- Settles O33: each word is a register read; MCS has IDLE forced and MMIS is masked in the value read. -/
theorem i2cRegisterReads : Obligations.I2cRegisterReads := by
  intro s n v
  exact
    ⟨wordRuns_of_readI2c 0x000#12 (fun x => zextByte x.slaveAddress) rfl rfl rfl,
      wordRuns_of_readI2c 0x004#12 (fun x => x.controlStatus ||| Config.mcsIdle) rfl rfl rfl,
      wordRuns_of_readI2c 0x008#12 (fun x => zextByte x.dataRegister) rfl rfl rfl,
      wordRuns_of_readI2c 0x00C#12 (fun x => zextByte x.timingRegister) rfl rfl rfl,
      wordRuns_of_readI2c 0x010#12 (fun x => x.interruptMask) rfl rfl rfl,
      wordRuns_of_readI2c 0x014#12 (fun x => x.rawInterruptStatus) rfl rfl rfl,
      wordRuns_of_readI2c 0x018#12 (fun x => maskedStatus x.rawInterruptStatus x.interruptMask) rfl rfl rfl,
      wordRuns_of_readI2c 0x020#12 (fun x => x.masterConfig) rfl rfl rfl⟩

/-- Settles O34: each word is a write that only stores: the low byte, the board's fixed mask, or the status with the bits of
`v` cleared. -/
theorem i2cRegisterWrites : Obligations.I2cRegisterWrites := by
  intro s n v
  exact
    ⟨wordRuns_of_writeI2c 0x000#12 (fun x => { x with slaveAddress := low8 v }) rfl rfl rfl,
      wordRuns_of_writeI2c 0x008#12 (fun x => { x with dataRegister := low8 v }) rfl rfl rfl,
      wordRuns_of_writeI2c 0x00C#12 (fun x => { x with timingRegister := low8 v }) rfl rfl rfl,
      wordRuns_of_writeI2c 0x010#12 (fun x => { x with interruptMask := s.params.i2cMimrFixed }) rfl rfl rfl,
      wordRuns_of_writeI2c 0x01C#12 (fun x => { x with rawInterruptStatus := w1c x.rawInterruptStatus v }) rfl rfl rfl⟩

/-- Settles O35: three accesses that always fault, then the three branches of the MCR write; a legal value keeps only MFE
by `and_mcrMask_of_legal`. -/
theorem i2cFaultingAccessesAndMcr : Obligations.I2cFaultingAccessesAndMcr := by
  intro s n v
  refine ⟨wordRuns_of_accessFault .i2c .read 0x01C#12 rfl rfl, wordRuns_of_accessFault .i2c .write 0x014#12 rfl rfl,
    wordRuns_of_accessFault .i2c .write 0x018#12 rfl rfl, fun h0 => ?_, fun h0 h5 => ?_, fun h0 h5 => ?_⟩
  · exact wordRuns_of_accessFault .i2c .write 0x020#12 rfl (execI2cWMcr_of_loopback h0 s)
  · exact wordRuns_of_accessFault .i2c .write 0x020#12 rfl (execI2cWMcr_of_slaveMode h0 h5 s)
  · rw [← and_mcrMask_of_legal h0 h5]
    exact wordRuns_of_writeI2c 0x020#12 (fun x => { x with masterConfig := v &&& Config.mcrMask }) rfl
      (execI2cWMcr_of_legal h0 h5 s) rfl

end Sys2Proof.Proofs
end

section
/-! SUPPORT. From the meaning of an ADC register access to the statement `WordRuns`: one lemma for each form, and for each
register that every sequencer has. -/

namespace Sys2Proof.Machine

/-- Both outcomes of an SSCTLn write: the supported value is stored, any other is a fault (43_adc.md R301). -/
theorem writeCtl_eq_next (q : Fin 4) (v : Word) (s t : State) :
    writeCtl q v s = .next t ↔
      t =
        if v = s.params.adcSsctlSupported then { s with adc := { s.adc with ctl := s.adc.ctl.set q v } }
        else { s with faulted := some .adcSequence } := by
  unfold writeCtl
  split
  case isTrue => exact writeAdc_eq_next _ s t
  case isFalse => exact takeFault_eq_next .adcSequence s t

section AdcWords

variable {n : Nat} {v : Word} {i : Instr} {s : State} (off : BitVec 12)

/-- The word of an ADC register read returns the register's value and changes nothing else. -/
theorem wordRuns_of_readAdc {x : Word} (f : Adc → Word) (hd : decodeAccess .adc .read off n v = i)
    (hx : exec i s = readAdc f s) (hf : f s.adc = x) :
    WordRuns (accessWord .adc .read off) n v i s { s with readData := x } :=
  wordRuns_of_access .adc .read off hd (hx.trans ((readAdc_eq_next f s _).mpr (by rw [hf])))

/-- The word of an SSMUXn read returns the input mux of its sequencer (43_adc.md R280). -/
theorem wordRuns_of_readMux (q : Fin 4) (hd : decodeAccess .adc .read off n v = i) (hx : exec i s = readMux q s) :
    WordRuns (accessWord .adc .read off) n v i s { s with readData := s.adc.mux[q] } :=
  wordRuns_of_readAdc off (fun a => a.mux[q]) hd hx rfl

/-- The word of an SSCTLn read returns the control of its sequencer (43_adc.md R281). -/
theorem wordRuns_of_readCtl (q : Fin 4) (hd : decodeAccess .adc .read off n v = i) (hx : exec i s = readCtl q s) :
    WordRuns (accessWord .adc .read off) n v i s { s with readData := s.adc.ctl[q] } :=
  wordRuns_of_readAdc off (fun a => a.ctl[q]) hd hx rfl

/-- The word of an SSFSTATn read returns the FIFO state word of its sequencer (43_adc.md R283). -/
theorem wordRuns_of_readFstat (q : Fin 4) (hd : decodeAccess .adc .read off n v = i) (hx : exec i s = readFstat q s) :
    WordRuns (accessWord .adc .read off) n v i s { s with readData := s.adc.fifo[q].state } :=
  wordRuns_of_readAdc off (fun a => a.fifo[q].state) hd hx rfl

/-- The word of an ADC register write that only stores replaces the ADC's registers and nothing else. -/
theorem wordRuns_of_writeAdc {x : Adc} (f : Adc → Adc) (hd : decodeAccess .adc .write off n v = i)
    (hx : exec i s = writeAdc f s) (hf : f s.adc = x) :
    WordRuns (accessWord .adc .write off) n v i s { s with adc := x } :=
  wordRuns_of_access .adc .write off hd (hx.trans ((writeAdc_eq_next f s _).mpr (by rw [hf])))

/-- The word of an SSMUXn write stores the masked data in the input mux of its sequencer (43_adc.md R300). -/
theorem wordRuns_of_writeMux (q : Fin 4) (hd : decodeAccess .adc .write off n v = i) (hx : exec i s = writeMux q v s) :
    WordRuns (accessWord .adc .write off) n v i s
      { s with adc := { s.adc with mux := s.adc.mux.set q (v &&& Config.ssmuxMask) } } :=
  wordRuns_of_writeAdc off (fun a => { a with mux := a.mux.set q (v &&& Config.ssmuxMask) }) hd hx rfl

/-- The word of an SSCTLn write stores the supported value in the control of its sequencer and faults on any other
(43_adc.md R301). -/
theorem wordRuns_of_writeCtl (q : Fin 4) (hd : decodeAccess .adc .write off n v = i) (hx : exec i s = writeCtl q v s) :
    WordRuns (accessWord .adc .write off) n v i s
      (if v = s.params.adcSsctlSupported then { s with adc := { s.adc with ctl := s.adc.ctl.set q v } }
      else { s with faulted := some .adcSequence }) :=
  wordRuns_of_access .adc .write off hd (hx.trans ((writeCtl_eq_next q v s _).mpr rfl))

end AdcWords

end Sys2Proof.Machine
end

section
/-! The statements of the ADC family, each from the lemmas above. -/

namespace Sys2Proof.Proofs

open Sys2Proof.Machine

/-- Settles O39: nine reads of the ADC's own registers, ISC masked in the value read, then SSMUXn, SSCTLn and SSFSTATn of
each sequencer. -/
theorem adcRegisterReads : Obligations.AdcRegisterReads := by
  intro s n v
  exact
    ⟨wordRuns_of_readAdc 0x000#12 (fun a => zextNibble a.activeSequencers) rfl rfl rfl,
      wordRuns_of_readAdc 0x004#12 (fun a => a.rawInterruptStatus) rfl rfl rfl,
      wordRuns_of_readAdc 0x008#12 (fun a => a.interruptMask) rfl rfl rfl,
      wordRuns_of_readAdc 0x00C#12 (fun a => maskedStatus a.rawInterruptStatus a.interruptMask) rfl rfl rfl,
      wordRuns_of_readAdc 0x010#12 (fun a => a.overflow) rfl rfl rfl,
      wordRuns_of_readAdc 0x014#12 (fun a => a.sampleSource) rfl rfl rfl,
      wordRuns_of_readAdc 0x018#12 (fun a => a.underflow) rfl rfl rfl,
      wordRuns_of_readAdc 0x020#12 (fun a => a.seqPriority) rfl rfl rfl,
      wordRuns_of_readAdc 0x030#12 (fun a => a.averaging) rfl rfl rfl,
      wordRuns_of_readMux 0x040#12 0 rfl rfl,
      wordRuns_of_readMux 0x060#12 1 rfl rfl,
      wordRuns_of_readMux 0x080#12 2 rfl rfl,
      wordRuns_of_readMux 0x0A0#12 3 rfl rfl,
      wordRuns_of_readCtl 0x044#12 0 rfl rfl,
      wordRuns_of_readCtl 0x064#12 1 rfl rfl,
      wordRuns_of_readCtl 0x084#12 2 rfl rfl,
      wordRuns_of_readCtl 0x0A4#12 3 rfl rfl,
      wordRuns_of_readFstat 0x04C#12 0 rfl rfl,
      wordRuns_of_readFstat 0x06C#12 1 rfl rfl,
      wordRuns_of_readFstat 0x08C#12 2 rfl rfl,
      wordRuns_of_readFstat 0x0AC#12 3 rfl rfl⟩

/-- Settles O45: eight writes that only store or clear, the masked SSMUXn write of each sequencer, and the SSCTLn write of
each, whose two outcomes are `writeCtl_eq_next`. -/
theorem adcRegisterWrites : Obligations.AdcRegisterWrites := by
  intro s n v mux ctl
  exact
    ⟨wordRuns_of_writeAdc 0x000#12 (fun a => { a with activeSequencers := low4 v }) rfl rfl rfl,
      wordRuns_of_writeAdc 0x008#12 (fun a => { a with interruptMask := v }) rfl rfl rfl,
      wordRuns_of_writeAdc 0x00C#12 (fun a => { a with rawInterruptStatus := w1c a.rawInterruptStatus v }) rfl rfl rfl,
      wordRuns_of_writeAdc 0x010#12 (fun a => { a with overflow := w1c a.overflow v }) rfl rfl rfl,
      wordRuns_of_writeAdc 0x014#12 (fun a => { a with sampleSource := v }) rfl rfl rfl,
      wordRuns_of_writeAdc 0x018#12 (fun a => { a with underflow := w1c a.underflow v }) rfl rfl rfl,
      wordRuns_of_writeAdc 0x020#12 (fun a => { a with seqPriority := v }) rfl rfl rfl,
      wordRuns_of_writeAdc 0x030#12 (fun a => { a with averaging := v }) rfl rfl rfl,
      wordRuns_of_writeMux 0x040#12 0 rfl rfl,
      wordRuns_of_writeMux 0x060#12 1 rfl rfl,
      wordRuns_of_writeMux 0x080#12 2 rfl rfl,
      wordRuns_of_writeMux 0x0A0#12 3 rfl rfl,
      wordRuns_of_writeCtl 0x044#12 0 rfl rfl,
      wordRuns_of_writeCtl 0x064#12 1 rfl rfl,
      wordRuns_of_writeCtl 0x084#12 2 rfl rfl,
      wordRuns_of_writeCtl 0x0A4#12 3 rfl rfl⟩

/-- Settles O46: each word is an access that always faults, the PSSI write with its own code. -/
theorem adcFaultingAccesses : Obligations.AdcFaultingAccesses := by
  intro s n v bad
  exact
    ⟨wordRuns_of_accessFault .adc .read 0x028#12 rfl rfl,
      wordRuns_of_accessFault .adc .write 0x004#12 rfl rfl,
      wordRuns_of_accessFault .adc .write 0x028#12 rfl rfl,
      wordRuns_of_accessFault .adc .write 0x048#12 rfl rfl,
      wordRuns_of_accessFault .adc .write 0x068#12 rfl rfl,
      wordRuns_of_accessFault .adc .write 0x088#12 rfl rfl,
      wordRuns_of_accessFault .adc .write 0x0A8#12 rfl rfl,
      wordRuns_of_accessFault .adc .write 0x04C#12 rfl rfl,
      wordRuns_of_accessFault .adc .write 0x06C#12 rfl rfl,
      wordRuns_of_accessFault .adc .write 0x08C#12 rfl rfl,
      wordRuns_of_accessFault .adc .write 0x0AC#12 rfl rfl⟩

end Sys2Proof.Proofs
end

section
/-! SUPPORT. The decoder and the encoder against each other: what a row of a map is, the fields of a word put together
again, and what a word of each kind decodes to. -/

namespace Sys2Proof

/-! ## Rows of the maps -/

/-- `i` is the operation of an access to block `b` in direction `d` at offset `off`: well formed, and encoded by that
access's word (30_encoding.md R90). -/
def IsAccessOf (b : Block) (d : Dir) (off : BitVec 12) (i : Instr) : Prop :=
  i.wellFormed = true ∧ (encode i).word = accessWord b d off

/-- `i` is the operation of the event `code` of block `b` (30_encoding.md R90, R97). -/
def IsEventOf (b : Block) (code : BitVec 12) (i : Instr) : Prop :=
  i.wellFormed = true ∧ (encode i).word = eventWord b code

/-- An operation encoded at the number `k` is the operation of every offset with that number. -/
theorem isAccessOf_of_toNat {b : Block} {d : Dir} {off : BitVec 12} {i : Instr} (k : Nat) (hoff : off.toNat = k)
    (h : IsAccessOf b d (BitVec.ofNat 12 k) i) : IsAccessOf b d off i := by
  have : off = BitVec.ofNat 12 k := by rw [← hoff, BitVec.ofNat_toNat, BitVec.setWidth_eq]
  exact this ▸ h

theorem gptmReadRow_isAccessOf {n : Nat} {off : BitVec 12} {i : Instr} (h : gptmReadRow n off.toNat = some i) :
    IsAccessOf .gptm .read off i := by
  unfold gptmReadRow at h
  split at h <;> cases h <;> exact isAccessOf_of_toNat _ ‹_› ⟨rfl, rfl⟩

theorem gptmWriteRow_isAccessOf {n : Nat} {v : Word} {off : BitVec 12} {i : Instr}
    (h : gptmWriteRow n v off.toNat = some i) : IsAccessOf .gptm .write off i := by
  unfold gptmWriteRow at h
  split at h <;> cases h <;> exact isAccessOf_of_toNat _ ‹_› ⟨rfl, rfl⟩

theorem ssysReadRow_isAccessOf {off : BitVec 12} {i : Instr} (h : ssysReadRow off.toNat = some i) :
    IsAccessOf .ssys .read off i := by
  unfold ssysReadRow at h
  split at h <;> cases h <;> exact isAccessOf_of_toNat _ ‹_› ⟨rfl, rfl⟩

theorem ssysWriteRow_isAccessOf {v : Word} {off : BitVec 12} {i : Instr} (h : ssysWriteRow v off.toNat = some i) :
    IsAccessOf .ssys .write off i := by
  unfold ssysWriteRow at h
  split at h <;> cases h <;> exact isAccessOf_of_toNat _ ‹_› ⟨rfl, rfl⟩

theorem i2cReadRow_isAccessOf {off : BitVec 12} {i : Instr} (h : i2cReadRow off.toNat = some i) :
    IsAccessOf .i2c .read off i := by
  unfold i2cReadRow at h
  split at h <;> cases h <;> exact isAccessOf_of_toNat _ ‹_› ⟨rfl, rfl⟩

theorem i2cWriteRow_isAccessOf {v : Word} {off : BitVec 12} {i : Instr} (h : i2cWriteRow v off.toNat = some i) :
    IsAccessOf .i2c .write off i := by
  unfold i2cWriteRow at h
  split at h <;> cases h <;> exact isAccessOf_of_toNat _ ‹_› ⟨rfl, rfl⟩

theorem adcReadRow_isAccessOf {off : BitVec 12} {i : Instr} (h : adcReadRow off.toNat = some i) :
    IsAccessOf .adc .read off i := by
  unfold adcReadRow at h
  split at h <;> cases h <;> exact isAccessOf_of_toNat _ ‹_› ⟨rfl, rfl⟩

theorem adcWriteRow_isAccessOf {v : Word} {off : BitVec 12} {i : Instr} (h : adcWriteRow v off.toNat = some i) :
    IsAccessOf .adc .write off i := by
  unfold adcWriteRow at h
  split at h <;> cases h <;> exact isAccessOf_of_toNat _ ‹_› ⟨rfl, rfl⟩

/-- An access is its map's row, or the undefined-offset operation `i` where there is none (30_encoding.md R91, R96). -/
theorem isAccessOf_getD {b : Block} {d : Dir} {off : BitVec 12} {i : Instr} {row : Option Instr}
    (hsome : ∀ j, row = some j → IsAccessOf b d off j) (hwf : row = none → i.wellFormed = true)
    (hword : (encode i).word = accessWord b d off) : IsAccessOf b d off (row.getD i) := by
  cases hrow : row with
  | none => exact ⟨hwf hrow, hword⟩
  | some j => exact hsome j hrow

/-- What an access decodes to is the operation of that access. -/
theorem decodeAccess_isAccessOf (b : Block) (d : Dir) (off : BitVec 12) (n : Nat) (v : Word) :
    IsAccessOf b d off (decodeAccess b d off n v) := by
  cases b <;> cases d
  case gptm.read =>
    exact isAccessOf_getD (fun _ => gptmReadRow_isAccessOf)
      (fun h => congrArg not ((gptmReadRow_eq_none n _).mp h)) rfl
  case gptm.write =>
    exact isAccessOf_getD (fun _ => gptmWriteRow_isAccessOf)
      (fun h => congrArg not ((gptmWriteRow_eq_none n v _).mp h)) rfl
  case ssys.read =>
    exact isAccessOf_getD (fun _ => ssysReadRow_isAccessOf)
      (fun h => congrArg not ((ssysReadRow_eq_none _).mp h)) rfl
  case ssys.write =>
    exact isAccessOf_getD (fun _ => ssysWriteRow_isAccessOf)
      (fun h => congrArg not ((ssysWriteRow_eq_none v _).mp h)) rfl
  case i2c.read =>
    exact isAccessOf_getD (fun _ => i2cReadRow_isAccessOf)
      (fun h => congrArg not ((i2cReadRow_eq_none _).mp h)) rfl
  case i2c.write =>
    exact isAccessOf_getD (fun _ => i2cWriteRow_isAccessOf)
      (fun h => congrArg not ((i2cWriteRow_eq_none v _).mp h)) rfl
  case adc.read =>
    exact isAccessOf_getD (fun _ => adcReadRow_isAccessOf)
      (fun h => congrArg not ((adcReadRow_eq_none _).mp h)) rfl
  case adc.write =>
    exact isAccessOf_getD (fun _ => adcWriteRow_isAccessOf)
      (fun h => congrArg not ((adcWriteRow_eq_none v _).mp h)) rfl

/-- An operation encoded at the code `k` is the operation of every code with that number. -/
theorem isEventOf_of_toNat {b : Block} {code : BitVec 12} {i : Instr} (k : Nat) (hcode : code.toNat = k)
    (h : IsEventOf b (BitVec.ofNat 12 k) i) : IsEventOf b code i := by
  have : code = BitVec.ofNat 12 k := by rw [← hcode, BitVec.ofNat_toNat, BitVec.setWidth_eq]
  exact this ▸ h

/-- What an event code decodes to is the operation of that event. -/
theorem decodeEvent_isEventOf {b : Block} {code : BitVec 12} {n : Nat} {v : Word} {i : Instr}
    (h : decodeEvent b code n v = some i) : IsEventOf b code i := by
  unfold decodeEvent at h
  split at h <;> cases h <;> exact isEventOf_of_toNat _ ‹_› ⟨rfl, rfl⟩

/-! ## The fields of a word -/

/-- A word is its four fields, put together (30_encoding.md R90). -/
theorem append_fields (w : BitVec 16) : kindField w ++ blockField w ++ dirField w ++ offsetField w = w := by
  apply BitVec.eq_of_getLsbD_eq
  intro k hk
  simp only [kindField, blockField, dirField, offsetField, BitVec.getLsbD_append, BitVec.getLsbD_extractLsb']
  interval_cases k <;> simp

@[simp] theorem Block.bits_ofBits (b : BitVec 2) : (Block.ofBits b).bits = b := by
  revert b; decide

@[simp] theorem Block.ofBits_bits (b : Block) : Block.ofBits b.bits = b := by
  cases b <;> decide

@[simp] theorem Dir.bit_ofBit (d : BitVec 1) : (Dir.ofBit d).bit = d := by
  revert d; decide

theorem accessWord_fields {w : BitVec 16} (h : kindField w = 0#1) :
    accessWord (Block.ofBits (blockField w)) (Dir.ofBit (dirField w)) (offsetField w) = w := by
  conv_rhs => rw [← append_fields w, h]
  rw [accessWord, Block.bits_ofBits, Dir.bit_ofBit]

theorem eventWord_fields {w : BitVec 16} (hk : kindField w = 1#1) (hd : dirField w = 0#1) :
    eventWord (Block.ofBits (blockField w)) (offsetField w) = w := by
  conv_rhs => rw [← append_fields w, hk, hd]
  rw [eventWord, Block.bits_ofBits]

/-- An access word names one block, one direction and one offset. -/
theorem accessWord_inj {b b' : Block} {d d' : Dir} {off off' : BitVec 12} (h : accessWord b d off = accessWord b' d' off') :
    b = b' ∧ d = d' ∧ off = off' :=
  ⟨by rw [← accessWord_block b d off, h, accessWord_block], by rw [← accessWord_dir b d off, h, accessWord_dir],
    by rw [← accessWord_offset b d off, h, accessWord_offset]⟩

/-- No word is the word of an access and of an event. -/
theorem accessWord_ne_eventWord (b b' : Block) (d : Dir) (off code : BitVec 12) :
    accessWord b d off ≠ eventWord b' code := by
  intro h
  have hk := congrArg kindField h
  rw [accessWord_kind, eventWord_kind] at hk
  exact absurd hk (by decide)

/-! ## What a word decodes to -/

/-- The three cases of `decode`: an access, an event with a row, and a word of kind 1 that is refused
(30_encoding.md R91). -/
theorem decode_cases (r : OpRequest) :
    (kindField r.word = 0#1 ∧
      decode r =
        .ok
          (decodeAccess (Block.ofBits (blockField r.word)) (Dir.ofBit (dirField r.word)) (offsetField r.word) r.inst
            r.data)) ∨
    (∃ b code i, r.word = eventWord b code ∧ decodeEvent b code r.inst r.data = some i ∧ decode r = .ok i) ∨
    (kindField r.word = 1#1 ∧ decode r = .error (.noSuchEvent r.word)) := by
  have hkind : ∀ x : BitVec 1, x ≠ 0#1 → x = 1#1 := by decide
  by_cases hk : kindField r.word = 0#1
  · exact .inl ⟨hk, by rw [decode, if_pos hk]⟩
  · have hk1 := hkind _ hk
    by_cases hd : dirField r.word = 0#1
    · have hw := eventWord_fields hk1 hd
      have hdec := decode_eventWord (Block.ofBits (blockField r.word)) (offsetField r.word) r.inst r.data
      rw [hw] at hdec
      cases hi : decodeEvent (Block.ofBits (blockField r.word)) (offsetField r.word) r.inst r.data with
      | none => rw [hi] at hdec; exact .inr (.inr ⟨hk1, hdec⟩)
      | some i => rw [hi] at hdec; exact .inr (.inl ⟨_, _, i, hw.symm, hi, hdec⟩)
    · exact .inr (.inr ⟨hk1, by rw [decode, if_neg hk, if_neg hd]⟩)

/-- What a word decodes to is well formed and encodes to that word. -/
theorem wellFormed_and_word_of_decode {r : OpRequest} {i : Instr} (h : decode r = .ok i) :
    i.wellFormed = true ∧ (encode i).word = r.word := by
  obtain ⟨hk, hd⟩ | ⟨b, code, j, hw, hj, hd⟩ | ⟨-, hd⟩ := decode_cases r <;> rw [hd] at h <;> cases h
  · have hi := decodeAccess_isAccessOf (Block.ofBits (blockField r.word)) (Dir.ofBit (dirField r.word))
      (offsetField r.word) r.inst r.data
    rwa [IsAccessOf, accessWord_fields hk] at hi
  · exact hw ▸ decodeEvent_isEventOf hj

/-- An undefined-offset operation decodes back from its encoding where its map has no row at the offset
(30_encoding.md R96). -/
theorem decode_of_noRow {b : Block} {d : Dir} {off : BitVec 12} {n : Nat} {v : Word} {i : Instr} {row : Option Instr}
    (henc : encode i = ⟨accessWord b d off, n, v⟩) (hrow : row = none) (hdec : decodeAccess b d off n v = row.getD i) :
    decode (encode i) = .ok i := by
  rw [henc, decode_accessWord, hdec, hrow]; rfl

/-- The eleven event words of 30_encoding.md R97. -/
def eventWords : List (BitVec 16) :=
  [0x8000#16, 0x8001#16, 0x8FFE#16, 0x8FFF#16, 0xAFFE#16, 0xAFFF#16, 0xCFFE#16, 0xCFFF#16, 0xE000#16, 0xEFFE#16, 0xEFFF#16]

/-- A code with a row belongs to one of the eleven words. -/
theorem eventWord_mem_of_decodeEvent {b : Block} {code : BitVec 12} {n : Nat} {v : Word} {i : Instr}
    (h : decodeEvent b code n v = some i) : eventWord b code ∈ eventWords := by
  rw [← (decodeEvent_isEventOf h).2]
  unfold decodeEvent at h
  split at h <;> cases h <;> exact List.elem_iff.mp rfl

end Sys2Proof
end

section
/-! The statements about the decoder, each from the lemmas above. -/

namespace Sys2Proof.Proofs

open Sys2Proof.Machine

/-- Settles O6: an operation with a row decodes by computation; an undefined-offset operation because its map has no row at
a well-formed offset. -/
theorem decodeOfEncodeIsIdentity : Obligations.DecodeOfEncodeIsIdentity := by
  intro i hwf
  cases i with
  | gptmRUndef n off => exact decode_of_noRow rfl ((gptmReadRow_eq_none n _).mpr ((Bool.not_eq_true' _).mp hwf)) rfl
  | gptmWUndef n off v => exact decode_of_noRow rfl ((gptmWriteRow_eq_none n v _).mpr ((Bool.not_eq_true' _).mp hwf)) rfl
  | ssysRUndef off => exact decode_of_noRow rfl ((ssysReadRow_eq_none _).mpr ((Bool.not_eq_true' _).mp hwf)) rfl
  | ssysWUndef off v => exact decode_of_noRow rfl ((ssysWriteRow_eq_none v _).mpr ((Bool.not_eq_true' _).mp hwf)) rfl
  | i2cRUndef off => exact decode_of_noRow rfl ((i2cReadRow_eq_none _).mpr ((Bool.not_eq_true' _).mp hwf)) rfl
  | i2cWUndef off v => exact decode_of_noRow rfl ((i2cWriteRow_eq_none v _).mpr ((Bool.not_eq_true' _).mp hwf)) rfl
  | adcRUndef off => exact decode_of_noRow rfl ((adcReadRow_eq_none _).mpr ((Bool.not_eq_true' _).mp hwf)) rfl
  | adcWUndef off v => exact decode_of_noRow rfl ((adcWriteRow_eq_none v _).mpr ((Bool.not_eq_true' _).mp hwf)) rfl
  | gptmEvFireA _ | gptmEvFireB _ | gptmEvRestore _ _ | gptmEvReset _ | ssysEvRestore _ | ssysEvReset | i2cEvRestore _
  | i2cEvReset | adcEvTrigger | adcEvRestore _ | adcEvReset => exact decode_eventWord ..
  | _ => exact decode_accessWord ..

/-- Settles O7: what an access or an event decodes to is an operation of that word. -/
theorem encodeOfDecodeGivesTheWord : Obligations.EncodeOfDecodeGivesTheWord :=
  fun _ _ h => wellFormed_and_word_of_decode h

/-- Settles O4: each of the eleven words decodes by its code; a word of kind 1 that decodes at all is one of them. -/
theorem eventWordsDecodeOrAreRefused : Obligations.EventWordsDecodeOrAreRefused := by
  intro n k
  refine ⟨decode_eventWord .gptm 0x000#12 n k, decode_eventWord .gptm 0x001#12 n k, decode_eventWord .gptm 0xFFE#12 n k,
    decode_eventWord .gptm 0xFFF#12 n k, decode_eventWord .ssys 0xFFE#12 n k, decode_eventWord .ssys 0xFFF#12 n k,
    decode_eventWord .i2c 0xFFE#12 n k, decode_eventWord .i2c 0xFFF#12 n k, decode_eventWord .adc 0x000#12 n k,
    decode_eventWord .adc 0xFFE#12 n k, decode_eventWord .adc 0xFFF#12 n k, fun w hw hmem => ?_⟩
  obtain ⟨hk, -⟩ | ⟨b, code, i, rfl, hi, -⟩ | ⟨-, hd⟩ := decode_cases ⟨w, n, k⟩
  · have hbit := congrArg (fun x : BitVec 1 => x.getLsbD 0) hk
    simp only [kindField, BitVec.getLsbD_extractLsb'] at hbit
    rw [hw] at hbit
    exact absurd hbit (by decide)
  · exact absurd (eventWord_mem_of_decodeEvent hi) hmem
  · exact hd

end Sys2Proof.Proofs
end

section
/-! SUPPORT. What an operation can do, said once: `Effect` lists the forms of a next state of `exec`, `StepEffect` those of
`perform`, each with what the statements about steps need of it. The statements about steps are case analyses of these. -/

namespace Sys2Proof

/-! ## The access or event that an operation is -/

theorem IsAccessOf.unique {b b' : Block} {d d' : Dir} {off off' : BitVec 12} {i : Instr} (h : IsAccessOf b d off i)
    (h' : IsAccessOf b' d' off' i) : b = b' ∧ d = d' ∧ off = off' :=
  accessWord_inj (h.2.symm.trans h'.2)

theorem IsAccessOf.not_event {b b' : Block} {d : Dir} {off code : BitVec 12} {i : Instr} (h : IsAccessOf b d off i) :
    ¬ IsEventOf b' code i :=
  fun h' => accessWord_ne_eventWord b b' d off code (h.2.symm.trans h'.2)

end Sys2Proof

namespace Sys2Proof.Machine

/-! ## What each kind of write stores -/

/-- What a GPTM register write `i` other than CTL's leaves: the channels stay as they are, IMR takes only masked values, and
RIS changes only by the W1C of ICR. -/
structure GptmStore (p : Params) (i : Instr) (n : Nat) (g g' : Gptm) : Prop where
  armed : g'.armed = g.armed
  nextDeadline : g'.nextDeadline = g.nextDeadline
  mask : g'.interruptMask = g.interruptMask ∨ ∃ v, g'.interruptMask = v &&& p.gptmImrWmask
  status : g'.rawStatus = g.rawStatus ∨ ∃ v, i = .gptmWIcr n v ∧ g'.rawStatus = w1c g.rawStatus v

/-- What an SSYS register write `i` leaves, before the recomputation: the board words stay, CLKCFG takes only captured values,
and the catch-all RIS changes only by the PLL mark or by its own write. -/
structure SsysStore (i : Instr) (y y' : Ssys) : Prop where
  board : y'.board = y.board
  sel : y'.rccConfig = y.rccConfig ∨ ∃ v, y'.rccConfig = clkcfgValue v
  ris : y'.words.ris = y.words.ris ∨ y'.words.ris = markPll y.words.ris ∨
    ∃ v, i = .ssysWCatchallRis v ∧ y'.words.ris = v

/-- What an I2C register write `i` other than MCS's leaves: MCS stays, MCR takes at most MFE, MIMR only the fixed value, and
MRIS changes only by the W1C of MICR. -/
structure I2cStore (p : Params) (i : Instr) (x x' : I2c) : Prop where
  status : x'.controlStatus = x.controlStatus
  config : x'.masterConfig = x.masterConfig ∨ ∃ v, x'.masterConfig = v &&& 0x10#32
  mask : x'.interruptMask = x.interruptMask ∨ x'.interruptMask = p.i2cMimrFixed
  raw : x'.rawInterruptStatus = x.rawInterruptStatus ∨
    ∃ v, i = .i2cWMicr v ∧ x'.rawInterruptStatus = w1c x.rawInterruptStatus v

/-- What an ADC register write `i` leaves: the FIFOs stay, the three status registers change only by their own W1C, SSMUXn
takes only masked values and SSCTLn only the supported one. -/
structure AdcStore (p : Params) (i : Instr) (a a' : Adc) : Prop where
  raw : a'.rawInterruptStatus = a.rawInterruptStatus ∨
    ∃ v, i = .adcWIsc v ∧ a'.rawInterruptStatus = w1c a.rawInterruptStatus v
  overflow : a'.overflow = a.overflow ∨ ∃ v, i = .adcWOstat v ∧ a'.overflow = w1c a.overflow v
  underflow : a'.underflow = a.underflow ∨ ∃ v, i = .adcWUstat v ∧ a'.underflow = w1c a.underflow v
  mux : a'.mux = a.mux ∨ ∃ (q : Fin 4) (v : Word), a'.mux = a.mux.set q (v &&& Config.ssmuxMask)
  ctl : a'.ctl = a.ctl ∨ ∃ q : Fin 4, a'.ctl = a.ctl.set q p.adcSsctlSupported
  fifo : a'.fifo = a.fifo

/-! ## A CTL write and the fires -/

/-- What a CTL write or a fire makes of its timer block: IMR stays, no RIS bit falls and only bits 0 and 3 rise, and channel B
is not armed without the quirk flag. -/
structure GptmRan (p : Params) (g g' : Gptm) : Prop where
  mask : g'.interruptMask = g.interruptMask
  noFall : ∀ k, g.rawStatus.getLsbD k = true → g'.rawStatus.getLsbD k = true
  status : g.rawStatus &&& ~~~0x9#32 = 0#32 → g'.rawStatus &&& ~~~0x9#32 = 0#32
  noB : p.quirks.pwmImmediateFire = false → g.armed.b = false → g'.armed.b = false

/-- A timer block whose IMR, RIS and channel B are those of another. -/
theorem GptmRan.of_eq {p : Params} {g g' : Gptm} (hm : g'.interruptMask = g.interruptMask)
    (hs : g'.rawStatus = g.rawStatus) (hb : g'.armed.b = g.armed.b) : GptmRan p g g' :=
  ⟨hm, fun _ h => hs ▸ h, fun h => hs ▸ h, fun _ h => hb ▸ h⟩

theorem GptmRan.trans {p : Params} {g g' g'' : Gptm} (h : GptmRan p g g') (h' : GptmRan p g' g'') : GptmRan p g g'' :=
  ⟨h'.mask.trans h.mask, fun k hk => h'.noFall k (h.noFall k hk), fun hs => h'.status (h.status hs),
    fun hq hb => h'.noB hq (h.noB hq hb)⟩

theorem GptmRan.andThen {p : Params} {g : Gptm} {r : GptmRun} {f : Gptm → GptmRun} (h : GptmRan p g r.gptm)
    (hf : ∀ g1, GptmRan p g1 (f g1).gptm) : GptmRan p g (r.andThen f).gptm := by
  unfold GptmRun.andThen
  split
  · exact h
  · exact h.trans (hf _)

/-- A bit set in a word does not fall when a bit is set. -/
theorem getLsbD_setBit_true {x : Word} {j : Nat} (k : Nat) (h : x.getLsbD j = true) :
    (setBit x k true).getLsbD j = true := by
  simp [setBit, h]

/-- A word within a mask stays within it when cut down further. -/
theorem and_and_eq_zero {x c : Word} (h : x &&& c = 0#32) (y : Word) : x &&& y &&& c = 0#32 := by
  rw [BitVec.and_assoc, BitVec.and_comm y c, ← BitVec.and_assoc, h, BitVec.zero_and]

theorem w1c_and_eq_zero {x c : Word} (h : x &&& c = 0#32) (v : Word) : w1c x v &&& c = 0#32 := and_and_eq_zero h _

/-- A word within a mask stays within it when one of the mask's bits is written. -/
theorem setBit_and_eq_zero {x c : Word} {k : Nat} (h : x &&& c = 0#32) (hk : (1#32 <<< k) &&& c = 0#32) (b : Bool) :
    setBit x k b &&& c = 0#32 := by
  cases b
  · exact and_and_eq_zero h _
  · rw [setBit, if_pos rfl, BitVec.and_or_distrib_right, h, hk, BitVec.or_zero]

/-- The status bits of a fire are bits 0 and 3. -/
theorem GptmRan.of_setStatus {p : Params} {g g' : Gptm} {k : Nat} (hk : (1#32 <<< k) &&& ~~~0x9#32 = 0#32)
    (hm : g'.interruptMask = g.interruptMask) (hs : g'.rawStatus = setBit g.rawStatus k true)
    (hb : g'.armed.b = g.armed.b) : GptmRan p g g' :=
  ⟨hm, fun _ h => hs ▸ getLsbD_setBit_true k h, fun h => hs ▸ setBit_and_eq_zero h hk true, fun _ h => hb ▸ h⟩

theorem Gptm.arm_ran_a (p : Params) (g : Gptm) (t : Nat) : GptmRan p g (g.arm .a t) := .of_eq rfl rfl rfl

/-- A disarmed channel is not armed. -/
theorem Gptm.disarm_ran (p : Params) (g : Gptm) (c : Channel) : GptmRan p g (g.disarm c) :=
  ⟨rfl, fun _ h => h, fun h => h, fun _ h => by rw [Gptm.disarm_armed]; cases c; exacts [h, rfl]⟩

/-- A reload of channel A, and one of channel B on the split path, where it arms nothing without the quirk flag
(40_gptm.md R103). -/
theorem Gptm.reload_ran (p : Params) (scale : Nat) (g : Gptm) {c : Channel} (hc : c = .a ∨ combined g.config = false)
    (base : Nat) : GptmRan p g (g.reload p scale c base).gptm := by
  cases c with
  | a =>
    obtain ⟨-, h⟩ | ⟨-, h⟩ | ⟨-, -, -, h⟩ | ⟨-, -, -, h⟩ := Gptm.reload_cases p scale g .a base <;> rw [h]
    · exact g.arm_ran_a p _
    · exact g.arm_ran_a p _
    · split
      · exact g.arm_ran_a p _
      · exact .of_eq rfl rfl rfl
    · exact .of_eq rfl rfl rfl
  | b =>
    have hcomb : combined g.config = false := hc.resolve_left (by decide)
    obtain ⟨h0, -⟩ | ⟨h1, -⟩ | ⟨-, -, -, h⟩ | ⟨-, -, -, h⟩ := Gptm.reload_cases p scale g .b base
    · rw [h0] at hcomb; exact absurd hcomb (by decide)
    · rw [h1] at hcomb; exact absurd hcomb (by decide)
    · rw [h]
      split
      · exact ⟨rfl, fun _ h => h, fun h => h, fun hq _ => by simp_all⟩
      · exact .of_eq rfl rfl rfl
    · rw [h]; exact .of_eq rfl rfl rfl

theorem Gptm.enableChange_ran (p : Params) (scale now : Nat) {c : Channel} (old new : Bool) (g : Gptm)
    (hc : c = .a ∨ combined g.config = false) : GptmRan p g (Gptm.enableChange p scale now c old new g).gptm := by
  obtain ⟨-, h⟩ | ⟨-, -, h⟩ | ⟨-, -, h⟩ := Gptm.enableChange_cases p scale now c old new g <;> rw [h]
  · exact .of_eq rfl rfl rfl
  · exact g.reload_ran p scale hc now
  · exact g.disarm_ran p c

/-- The CTL write: channel A, then, on the split path and if no fault ended it, channel B (40_gptm.md R133). -/
theorem Gptm.writeControl_ran (p : Params) (scale now : Nat) (g : Gptm) (v : Word) :
    GptmRan p g (g.writeControl p scale now v).gptm := by
  have hstore : GptmRan p g { g with control := v } := .of_eq rfl rfl rfl
  refine GptmRan.andThen (hstore.trans (Gptm.enableChange_ran p scale now _ _ _ (.inl rfl))) fun g1 => ?_
  split
  · exact .of_eq rfl rfl rfl
  · exact Gptm.enableChange_ran p scale now _ _ _ (.inr (Bool.eq_false_iff.mpr ‹_›))

theorem Gptm.modeFire_ran (p : Params) (g : Gptm) (c : Channel) : GptmRan p g (g.modeFire p c).gptm := by
  unfold Gptm.modeFire
  split <;> exact .of_eq rfl rfl rfl

theorem Gptm.countdownFire_ran (p : Params) (scale : Nat) (g : Gptm) : GptmRan p g (g.countdownFire p scale).gptm := by
  have hset : GptmRan p g { g with rawStatus := setTimeout g.rawStatus } := .of_setStatus (k := 0) (by decide) rfl rfl rfl
  simp only [Gptm.countdownFire]
  split
  · exact hset.trans (.of_eq rfl rfl rfl)
  · exact hset.trans (Gptm.reload_ran p scale _ (.inl rfl) _)

theorem Gptm.rtcTick_ran (p : Params) (scale : Nat) (g : Gptm) : GptmRan p g (g.rtcTick p scale).gptm := by
  unfold Gptm.rtcTick
  refine .trans ?_ (Gptm.reload_ran p scale _ (.inl rfl) _)
  split
  · exact .of_setStatus (k := 3) (by decide) rfl rfl rfl
  · exact .of_eq rfl rfl rfl

/-- The body of a channel-A fire, after its handle is consumed (40_gptm.md R150). -/
theorem Gptm.fireBodyA_ran (p : Params) (scale : Nat) (g : Gptm) : GptmRan p g ((g.disarm .a).fireBodyA p scale).gptm := by
  refine (g.disarm_ran p .a).trans ?_
  unfold Gptm.fireBodyA
  split
  · exact Gptm.countdownFire_ran p scale _
  · split
    · exact Gptm.rtcTick_ran p scale _
    · exact Gptm.modeFire_ran p _ .a

/-- The body of a channel-B fire, after its handle is consumed (40_gptm.md R151). -/
theorem Gptm.fireBodyB_ran (p : Params) (g : Gptm) : GptmRan p g ((g.disarm .b).fireBodyB p).gptm := by
  refine (g.disarm_ran p .b).trans ?_
  unfold Gptm.fireBodyB
  split
  · exact .of_eq rfl rfl rfl
  · exact Gptm.modeFire_ran p _ .b

/-! ## The effect of an operation -/

/-- What `exec` of the operation `i` can make of `s`. -/
inductive Effect (i : Instr) (s : State) : State → Prop
  | fault (c : FaultCode) : Effect i s { s with faulted := some c }
  | read (x : Word) (hi : ∃ b off, IsAccessOf b .read off i) : Effect i s { s with readData := x }
  | fifoRead (q : Fin 4) (off : BitVec 12) (hoff : off.toNat ∈ [0x048, 0x068, 0x088, 0x0A8])
      (hi : IsAccessOf .adc .read off i) :
      Effect i s { s with adc := s.adc.fifoRead s.params q, readData := s.adc.fifoValue q }
  | gptmStore (n : Nat) (g g' : Gptm) (off : BitVec 12) (hi : IsAccessOf .gptm .write off i) (hg : s.gptm[n]? = some g)
      (h : GptmStore s.params i n g g') : Effect i s (s.setGptm n g')
  | gptmRun (n : Nat) (g g' : Gptm) (a : Adc) (f : Option FaultCode)
      (hi : IsAccessOf .gptm .write 0x00C#12 i ∨ ∃ code, IsEventOf .gptm code i) (hg : s.gptm[n]? = some g)
      (h : GptmRan s.params g g') (ha : a = s.adc ∨ a = pulseAdc s.params n s.adc) :
      Effect i s { s with gptm := s.gptm.set n g', adc := a, faulted := f }
  | gptmReplace (n : Nat) (g' : Gptm) (hi : i = .gptmEvReset n ∨ ∃ k, i = .gptmEvRestore n k)
      (h : g' = Gptm.reset ∨ g' ∈ s.saved.gptm) : Effect i s (s.setGptm n g')
  | ssysStore (y : Ssys) (off : BitVec 12) (hi : IsAccessOf .ssys .write off i) (h : SsysStore i s.ssys y) :
      Effect i s { s with ssys := y.recompute s.params }
  | ssysReplace (y : Ssys) (hi : i = .ssysEvReset ∨ ∃ k, i = .ssysEvRestore k) (hboard : y.board = s.ssys.board)
      (h : y.rccConfig = 0#32 ∨ ∃ z ∈ s.saved.ssys, y.rccConfig = z.rccConfig) :
      Effect i s { s with ssys := y.recompute s.params }
  | i2cStore (x : I2c) (off : BitVec 12) (hi : IsAccessOf .i2c .write off i) (h : I2cStore s.params i s.i2c x) :
      Effect i s { s with i2c := x }
  | command (v : Word) (hi : i = .i2cWMcs v) :
      Effect i s { s with i2c := ((I2cSide.mk s.i2c s.bus).command v).regs, bus := ((I2cSide.mk s.i2c s.bus).command v).bus }
  | i2cReset (hi : i = .i2cEvReset) :
      Effect i s { s with i2c := I2c.reset, bus := (I2cSide.mk s.i2c s.bus).resetSide.bus }
  | i2cRestore (x : I2c) (k : Word) (hi : i = .i2cEvRestore k) (h : x ∈ s.saved.i2c) : Effect i s { s with i2c := x }
  | adcStore (a : Adc) (off : BitVec 12) (hi : IsAccessOf .adc .write off i) (h : AdcStore s.params i s.adc a) :
      Effect i s { s with adc := a }
  | trigger (hi : i = .adcEvTrigger) : Effect i s { s with adc := s.adc.trigger s.params }
  | adcReplace (a : Adc) (hi : i = .adcEvReset ∨ ∃ k, i = .adcEvRestore k) (h : a = Adc.reset ∨ a ∈ s.saved.adc) :
      Effect i s { s with adc := a }

section Forms

variable {i : Instr} {s t : State}

theorem Effect.of_takeFault {c : FaultCode} (h : takeFault c s = .next t) : Effect i s t :=
  (takeFault_eq_next c s t).mp h ▸ .fault c

theorem Effect.of_ite {c : Prop} [Decidable c] {a b : Result} (h : (if c then a else b) = .next t)
    (ha : a = .next t → Effect i s t) (hb : b = .next t → Effect i s t) : Effect i s t := by
  split at h
  · exact ha h
  · exact hb h

theorem Effect.of_faultGptm {n : Nat} {c : FaultCode} (h : faultGptm n c s = .next t) : Effect i s t :=
  ((faultGptm_eq_next n c s t).mp h).2 ▸ .fault c

theorem Effect.of_returnValue {x : Word} (hi : ∃ b off, IsAccessOf b .read off i) (h : returnValue x s = .next t) :
    Effect i s t :=
  (returnValue_eq_next x s t).mp h ▸ .read x hi

theorem Effect.of_readGptm {n : Nat} {f : Gptm → Word} (off : BitVec 12) (hi : IsAccessOf .gptm .read off i)
    (h : readGptm n f s = .next t) : Effect i s t := by
  obtain ⟨g, -, rfl⟩ := (readGptm_eq_next n f s t).mp h
  exact .read _ ⟨_, _, hi⟩

theorem Effect.of_readFifo {q : Fin 4} (off : BitVec 12) (hoff : off.toNat ∈ [0x048, 0x068, 0x088, 0x0A8])
    (hi : IsAccessOf .adc .read off i) (h : readFifo q s = .next t) : Effect i s t := by
  cases h; exact .fifoRead q off hoff hi

theorem Effect.of_writeGptm {n : Nat} {f : Gptm → Gptm} (off : BitVec 12) (hi : IsAccessOf .gptm .write off i)
    (h : writeGptm n f s = .next t) (hf : ∀ g, GptmStore s.params i n g (f g)) : Effect i s t := by
  obtain ⟨g, hg, rfl⟩ := (writeGptm_eq_next n f s t).mp h
  exact .gptmStore n g _ off hi hg (hf g)

theorem Effect.of_commitGptm {n : Nat} {g : Gptm} {r : GptmRun} {a : Adc}
    (hi : IsAccessOf .gptm .write 0x00C#12 i ∨ ∃ code, IsEventOf .gptm code i) (hg : s.gptm[n]? = some g)
    (hr : GptmRan s.params g r.gptm) (ha : a = s.adc ∨ a = pulseAdc s.params n s.adc)
    (h : commitGptm n r { s with adc := a } = .next t) : Effect i s t := by
  obtain ⟨-, rfl⟩ | ⟨c, -, rfl⟩ := (commitGptm_eq_next n r _ t).mp h
  · exact .gptmRun n g r.gptm a s.faulted hi hg hr ha
  · exact .gptmRun n g r.gptm a (some c) hi hg hr ha

theorem Effect.of_fireChannel {n : Nat} {c : Channel} {pulses : Gptm → Bool} {body : Gptm → GptmRun}
    (hi : ∃ code, IsEventOf .gptm code i) (hr : ∀ g, GptmRan s.params g (body (g.disarm c)).gptm)
    (h : fireChannel n c pulses body s = .next t) : Effect i s t := by
  obtain ⟨g, hg, -, h⟩ := (fireChannel_eq_next n c pulses body s t).mp h
  split at h
  · exact .of_commitGptm (.inr hi) hg (hr g) (.inr rfl) h
  · exact .of_commitGptm (a := s.adc) (.inr hi) hg (hr g) (.inl rfl) h

theorem Effect.of_writeSsys {f : Ssys → Ssys} (off : BitVec 12) (hi : IsAccessOf .ssys .write off i)
    (h : writeSsys f s = .next t) (hf : SsysStore i s.ssys (f s.ssys)) : Effect i s t :=
  (writeSsys_eq_next f s t).mp h ▸ .ssysStore _ off hi hf

theorem Effect.of_writeCatchall {r : CatchallReg} {v : Word} (off : BitVec 12) (hi : IsAccessOf .ssys .write off i)
    (h : writeCatchall r v s = .next t)
    (hr : (s.ssys.words.set r v).ris = s.ssys.words.ris ∨ i = .ssysWCatchallRis v ∧ (s.ssys.words.set r v).ris = v) :
    Effect i s t :=
  .of_writeSsys off hi h ⟨rfl, .inl rfl, hr.imp_right fun h => .inr ⟨v, h⟩⟩

theorem Effect.of_writeI2c {f : I2c → I2c} (off : BitVec 12) (hi : IsAccessOf .i2c .write off i)
    (h : writeI2c f s = .next t) (hf : I2cStore s.params i s.i2c (f s.i2c)) : Effect i s t :=
  (writeI2c_eq_next f s t).mp h ▸ .i2cStore _ off hi hf

theorem Effect.of_writeAdc {f : Adc → Adc} (off : BitVec 12) (hi : IsAccessOf .adc .write off i)
    (h : writeAdc f s = .next t) (hf : AdcStore s.params i s.adc (f s.adc)) : Effect i s t :=
  (writeAdc_eq_next f s t).mp h ▸ .adcStore _ off hi hf

theorem Effect.of_writeMux {q : Fin 4} {v : Word} (off : BitVec 12) (hi : IsAccessOf .adc .write off i)
    (h : writeMux q v s = .next t) : Effect i s t :=
  .of_writeAdc off hi h ⟨.inl rfl, .inl rfl, .inl rfl, .inr ⟨q, v, rfl⟩, .inl rfl, rfl⟩

theorem Effect.of_writeCtl {q : Fin 4} {v : Word} (off : BitVec 12) (hi : IsAccessOf .adc .write off i)
    (h : writeCtl q v s = .next t) : Effect i s t := by
  rw [writeCtl_eq_next] at h
  subst h
  split
  case isTrue hv =>
    exact .adcStore _ off hi ⟨.inl rfl, .inl rfl, .inl rfl, .inl rfl, .inr ⟨q, by rw [hv]⟩, rfl⟩
  case isFalse => exact .fault _

/-- The PLL mark is all that an RCC write makes of the catch-all words (41_ssys.md R202). -/
theorem ssysStore_writeRcc (y : Ssys) (v : Word) : SsysStore i y (y.writeRcc v) := by
  refine ⟨rfl, .inl rfl, ?_⟩
  rw [Ssys.writeRcc_words]
  cases pwrdn y.rccControl && !pwrdn v
  · exact .inl rfl
  · exact .inr (.inl rfl)

theorem Effect.of_execSsysWRcc2 {v : Word} (off : BitVec 12) (hi : IsAccessOf .ssys .write off i)
    (h : execSsysWRcc2 v s = .next t) : Effect i s t := by
  unfold execSsysWRcc2 at h
  split at h
  · split at h
    · exact .of_writeSsys off hi h ⟨rfl, .inl rfl, .inl rfl⟩
    · exact .of_writeSsys off hi h ⟨rfl, .inl rfl, .inl rfl⟩
    · exact .of_takeFault h
  · exact .of_writeSsys off hi h ⟨rfl, .inl rfl, .inl rfl⟩

theorem Effect.of_execI2cWMcr {v : Word} (off : BitVec 12) (hi : IsAccessOf .i2c .write off i)
    (h : execI2cWMcr v s = .next t) : Effect i s t := by
  cases h0 : v.getLsbD 0 with
  | true => rw [execI2cWMcr_of_loopback h0] at h; exact .of_takeFault h
  | false =>
    cases h5 : v.getLsbD 5 with
    | true => rw [execI2cWMcr_of_slaveMode h0 h5] at h; exact .of_takeFault h
    | false =>
      rw [execI2cWMcr_of_legal h0 h5] at h
      exact .of_writeI2c off hi h ⟨rfl, .inr ⟨v, and_mcrMask_of_legal h0 h5⟩, .inl rfl, .inl rfl⟩

theorem Effect.of_restoreGptm {n : Nat} {k : Word} (hi : i = .gptmEvRestore n k) (h : restoreGptm n k s = .next t) :
    Effect i s t := by
  obtain ⟨-, g, hg, rfl⟩ := (restoreGptm_eq_next n k s t).mp h
  exact .gptmReplace n g (.inr ⟨k, hi⟩) (.inr (List.mem_of_getElem? hg))

theorem Effect.of_restoreSsys {k : Word} (hi : i = .ssysEvRestore k) (h : restoreSsys k s = .next t) : Effect i s t := by
  obtain ⟨z, hz, h⟩ := (withSnapshot_eq_next _ k _ t).mp h
  rw [writeSsys_eq_next] at h
  subst h
  exact .ssysReplace _ (.inr ⟨k, hi⟩) rfl (.inr ⟨z, List.mem_of_getElem? hz, rfl⟩)

theorem Effect.of_resetSsys (hi : i = .ssysEvReset) (h : resetSsys s = .next t) : Effect i s t := by
  obtain ⟨y, hy, rfl⟩ | ⟨-, rfl⟩ := (resetSsys_eq_next s t).mp h
  · cases hc : boardClass s.ssys.board.did0 with
    | none => rw [Ssys.resetRegs_none hc] at hy; cases hy
    | some c =>
      rw [Ssys.resetRegs_some hc] at hy
      cases hy
      exact .ssysReplace _ (.inl hi) rfl (.inl rfl)
  · exact .fault _

theorem Effect.of_restoreI2c {k : Word} (hi : i = .i2cEvRestore k) (h : restoreI2c k s = .next t) : Effect i s t := by
  obtain ⟨x, hx, h⟩ := (withSnapshot_eq_next _ k _ t).mp h
  cases h
  exact .i2cRestore x k hi (List.mem_of_getElem? hx)

theorem Effect.of_restoreAdc {k : Word} (hi : i = .adcEvRestore k) (h : restoreAdc k s = .next t) : Effect i s t := by
  obtain ⟨a, ha, h⟩ := (withSnapshot_eq_next _ k _ t).mp h
  cases h
  exact .adcReplace a (.inr ⟨k, hi⟩) (.inr (List.mem_of_getElem? ha))

end Forms

/-- Every operation that answers a next state has one of the effects: each group of operations is one form of meaning. -/
theorem exec_effect {i : Instr} {s t : State} (h : exec i s = .next t) : Effect i s t := by
  cases i with
  | ssysWDid0 _ | ssysWDid1 _ | ssysWDc0 _ | ssysWDc1 _ | ssysWDc2 _ | ssysWDc3 _ | ssysWDc4 _ | ssysRUndef _
  | ssysWUndef _ _ | i2cRMicr | i2cWMris _ | i2cWMmis _ | i2cRUndef _ | i2cWUndef _ _ | adcRPssi | adcWRis _
  | adcWPssi _ | adcWSsfifo0 _ | adcWSsfstat0 _ | adcWSsfifo1 _ | adcWSsfstat1 _ | adcWSsfifo2 _ | adcWSsfstat2 _
  | adcWSsfifo3 _ | adcWSsfstat3 _ | adcRUndef _ | adcWUndef _ _ =>
    exact .of_takeFault h
  | gptmRTbr _ | gptmRUndef _ _ | gptmWRis _ _ | gptmWMis _ _ | gptmWTar _ _ | gptmWTbr _ _ | gptmWUndef _ _ _ =>
    exact .of_faultGptm h
  | gptmRCfg _ | gptmRTamr _ | gptmRTbmr _ | gptmRCtl _ | gptmRImr _ | gptmRRis _ | gptmRMis _ | gptmRIcr _
  | gptmRTailr _ | gptmRTbilr _ | gptmRTamatchr _ | gptmRTbmatchr _ | gptmRTapr _ | gptmRTbpr _ | gptmRTapmr _
  | gptmRTbpmr _ =>
    exact .of_readGptm _ ⟨rfl, rfl⟩ h
  | gptmRTar n =>
    obtain ⟨g, -, h⟩ := (withGptm_eq_next n s t _).mp h
    exact .of_ite h (.of_returnValue ⟨_, _, rfl, rfl⟩) .of_takeFault
  | ssysRDid0 | ssysRDid1 | ssysRDc0 | ssysRDc1 | ssysRDc2 | ssysRDc3 | ssysRDc4 | ssysRRcc | ssysRClkcfg
  | ssysRRcc2 =>
    exact .of_returnValue ⟨_, _, rfl, rfl⟩ h
  | ssysRCatchallPborctl | ssysRCatchallLdopctl | ssysRCatchallSrcr0 | ssysRCatchallSrcr1 | ssysRCatchallSrcr2
  | ssysRCatchallRis | ssysRCatchallImc | ssysRCatchallMisc | ssysRCatchallResc | ssysRCatchallRcgc0
  | ssysRCatchallRcgc1 | ssysRCatchallRcgc2 | ssysRCatchallScgc0 | ssysRCatchallScgc1 | ssysRCatchallScgc2
  | ssysRCatchallDcgc0 | ssysRCatchallDcgc1 | ssysRCatchallDcgc2 | ssysRCatchallClkvclr | ssysRCatchallLdoarst
  | ssysRCatchallUser0 | ssysRCatchallUser1 =>
    exact .of_returnValue ⟨_, _, rfl, rfl⟩ h
  | i2cRMsa | i2cRMcs | i2cRMdr | i2cRMtpr | i2cRMimr | i2cRMris | i2cRMmis | i2cRMcr =>
    exact .of_returnValue ⟨_, _, rfl, rfl⟩ h
  | adcRActss | adcRRis | adcRIm | adcRIsc | adcROstat | adcREmux | adcRUstat | adcRSspri | adcRSac | adcRSsmux0
  | adcRSsctl0 | adcRSsfstat0 | adcRSsmux1 | adcRSsctl1 | adcRSsfstat1 | adcRSsmux2 | adcRSsctl2 | adcRSsfstat2
  | adcRSsmux3 | adcRSsctl3 | adcRSsfstat3 =>
    exact .of_returnValue ⟨_, _, rfl, rfl⟩ h
  | adcRSsfifo0 => exact .of_readFifo 0x048#12 (by decide) ⟨rfl, rfl⟩ h
  | adcRSsfifo1 => exact .of_readFifo 0x068#12 (by decide) ⟨rfl, rfl⟩ h
  | adcRSsfifo2 => exact .of_readFifo 0x088#12 (by decide) ⟨rfl, rfl⟩ h
  | adcRSsfifo3 => exact .of_readFifo 0x0A8#12 (by decide) ⟨rfl, rfl⟩ h
  | gptmWCfg _ _ | gptmWTamr _ _ | gptmWTbmr _ _ | gptmWTailr _ _ | gptmWTbilr _ _ | gptmWTamatchr _ _
  | gptmWTbmatchr _ _ | gptmWTapr _ _ | gptmWTbpr _ _ | gptmWTapmr _ _ | gptmWTbpmr _ _ =>
    exact .of_writeGptm _ ⟨rfl, rfl⟩ h (fun g => ⟨rfl, rfl, .inl rfl, .inl rfl⟩)
  | gptmWImr n v => exact .of_writeGptm _ ⟨rfl, rfl⟩ h (fun g => ⟨rfl, rfl, .inr ⟨v, rfl⟩, .inl rfl⟩)
  | gptmWIcr n v => exact .of_writeGptm _ ⟨rfl, rfl⟩ h (fun g => ⟨rfl, rfl, .inl rfl, .inr ⟨v, rfl, rfl⟩⟩)
  | gptmWCtl n v =>
    obtain ⟨g, hg, h⟩ := (withGptm_eq_next n s t _).mp h
    exact .of_commitGptm (.inl ⟨rfl, rfl⟩) hg (g.writeControl_ran s.params _ _ v) (.inl rfl) h
  | ssysWCatchallPborctl _ | ssysWCatchallLdopctl _ | ssysWCatchallSrcr0 _ | ssysWCatchallSrcr1 _
  | ssysWCatchallSrcr2 _ | ssysWCatchallImc _ | ssysWCatchallMisc _ | ssysWCatchallResc _ | ssysWCatchallRcgc0 _
  | ssysWCatchallRcgc1 _ | ssysWCatchallRcgc2 _ | ssysWCatchallScgc0 _ | ssysWCatchallScgc1 _
  | ssysWCatchallScgc2 _ | ssysWCatchallDcgc0 _ | ssysWCatchallDcgc1 _ | ssysWCatchallDcgc2 _
  | ssysWCatchallClkvclr _ | ssysWCatchallLdoarst _ | ssysWCatchallUser0 _ | ssysWCatchallUser1 _ =>
    exact .of_writeCatchall _ ⟨rfl, rfl⟩ h (.inl rfl)
  | ssysWCatchallRis v => exact .of_writeCatchall _ ⟨rfl, rfl⟩ h (.inr ⟨rfl, rfl⟩)
  | ssysWRcc v => cases h; exact .ssysStore _ _ ⟨rfl, rfl⟩ (ssysStore_writeRcc s.ssys v)
  | ssysWClkcfg v => cases h; exact .ssysStore _ _ ⟨rfl, rfl⟩ ⟨rfl, .inr ⟨v, rfl⟩, .inl rfl⟩
  | ssysWRcc2 v => exact .of_execSsysWRcc2 _ ⟨rfl, rfl⟩ h
  | i2cWMsa _ | i2cWMdr _ | i2cWMtpr _ =>
    cases h; exact .i2cStore _ _ ⟨rfl, rfl⟩ ⟨rfl, .inl rfl, .inl rfl, .inl rfl⟩
  | i2cWMimr v => cases h; exact .i2cStore _ _ ⟨rfl, rfl⟩ ⟨rfl, .inl rfl, .inr rfl, .inl rfl⟩
  | i2cWMicr v => cases h; exact .i2cStore _ _ ⟨rfl, rfl⟩ ⟨rfl, .inl rfl, .inl rfl, .inr ⟨v, rfl, rfl⟩⟩
  | i2cWMcr v => exact .of_execI2cWMcr _ ⟨rfl, rfl⟩ h
  | i2cWMcs v => cases h; exact .command v rfl
  | adcWActss _ | adcWIm _ | adcWEmux _ | adcWSspri _ | adcWSac _ =>
    cases h; exact .adcStore _ _ ⟨rfl, rfl⟩ ⟨.inl rfl, .inl rfl, .inl rfl, .inl rfl, .inl rfl, rfl⟩
  | adcWIsc v => cases h; exact .adcStore _ _ ⟨rfl, rfl⟩ ⟨.inr ⟨v, rfl, rfl⟩, .inl rfl, .inl rfl, .inl rfl, .inl rfl, rfl⟩
  | adcWOstat v => cases h; exact .adcStore _ _ ⟨rfl, rfl⟩ ⟨.inl rfl, .inr ⟨v, rfl, rfl⟩, .inl rfl, .inl rfl, .inl rfl, rfl⟩
  | adcWUstat v => cases h; exact .adcStore _ _ ⟨rfl, rfl⟩ ⟨.inl rfl, .inl rfl, .inr ⟨v, rfl, rfl⟩, .inl rfl, .inl rfl, rfl⟩
  | adcWSsmux0 _ | adcWSsmux1 _ | adcWSsmux2 _ | adcWSsmux3 _ => exact .of_writeMux _ ⟨rfl, rfl⟩ h
  | adcWSsctl0 _ | adcWSsctl1 _ | adcWSsctl2 _ | adcWSsctl3 _ => exact .of_writeCtl _ ⟨rfl, rfl⟩ h
  | gptmEvFireA n => exact .of_fireChannel ⟨_, rfl, rfl⟩ (Gptm.fireBodyA_ran s.params s.ssys.systemClockScale) h
  | gptmEvFireB n => exact .of_fireChannel ⟨_, rfl, rfl⟩ (Gptm.fireBodyB_ran s.params) h
  | gptmEvRestore n k => exact .of_restoreGptm rfl h
  | gptmEvReset n => exact ((resetGptm_eq_next n s t).mp h).2 ▸ .gptmReplace n _ (.inl rfl) (.inl rfl)
  | ssysEvRestore k => exact .of_restoreSsys rfl h
  | ssysEvReset => exact .of_resetSsys rfl h
  | i2cEvRestore k => exact .of_restoreI2c rfl h
  | i2cEvReset => cases h; exact .i2cReset rfl
  | adcEvTrigger => cases h; exact .trigger rfl
  | adcEvRestore k => exact .of_restoreAdc rfl h
  | adcEvReset => cases h; exact .adcReplace _ (.inl rfl) (.inl rfl)

/-! ## The effect of a stimulus -/

/-- What `perform` of the stimulus `x` can make of `s`. -/
inductive StepEffect (s : State) : Stimulus → State → Prop
  | fault (d : Dir) (b : Block) (n off size : Nat) (v : Word) (c : FaultCode) :
      StepEffect s (.access d b n off size v) { s with faulted := some c }
  | access {d : Dir} {b : Block} {n off : Nat} {v : Word} {t : State} (hoff : off < 0x1000)
      (h : Effect (decodeAccess b d (BitVec.ofNat 12 off) n v) s t) : StepEffect s (.access d b n off 4 v) t
  | event {e : BitVec 15} {n : Nat} {k : Word} {i : Instr} {t : State} (hi : decode ⟨1#1 ++ e, n, k⟩ = .ok i)
      (h : Effect i s t) : StepEffect s (.event e n k) t
  | advance (u : Nat) (h : s.now ≤ u) : StepEffect s (.advance u) { s with now := u }
  | resetFault (c : FaultCode) : StepEffect s .resetAll { s with faulted := some c }
  | resetAll (y : Ssys) (hboard : y.board = s.ssys.board) (hsel : y.rccConfig = 0#32) :
      StepEffect s .resetAll
        { s with
          ssys := y.recompute s.params
          gptm := s.gptm.map fun _ => Gptm.reset
          i2c := I2c.reset
          bus := (I2cSide.mk s.i2c s.bus).resetSide.bus
          adc := Adc.reset }
  | save (b : Block) (n : Nat) (m : Saved) (hgptm : ∀ g ∈ m.gptm, g ∈ s.saved.gptm ∨ g ∈ s.gptm)
      (hssys : ∀ y ∈ m.ssys, y ∈ s.saved.ssys ∨ y = s.ssys.snapshot) (hi2c : ∀ x ∈ m.i2c, x ∈ s.saved.i2c ∨ x = s.i2c)
      (hadc : ∀ a ∈ m.adc, a ∈ s.saved.adc ∨ a = s.adc) : StepEffect s (.save b n) { s with saved := m }
  | busTaken (h : s.bus.holder = .none) : StepEffect s .busTaken { s with bus := { s.bus with holder := .other } }
  | busLetGo (h : s.bus.holder = .other) : StepEffect s .busLetGo { s with bus := { s.bus with holder := .none } }
  | answerAcquire (ok : Bool) : StepEffect s (.answerAcquire ok) { s with bus := { s.bus with nextAcquire := some ok } }
  | answerRecv (x : Byte) : StepEffect s (.answerRecv x) { s with bus := { s.bus with nextRecv := some x } }

section Stimuli

variable {s t : State}

theorem stepEffect_of_busAccess {d : Dir} {b : Block} {n off size : Nat} {v : Word}
    (h : busAccess d b n off size v s = .next t) : StepEffect s (.access d b n off size v) t := by
  by_cases hsize : size = 4
  · subst hsize
    obtain ⟨c, rfl⟩ | ⟨-, hoff, h⟩ := busAccess_eq_next h
    · exact .fault ..
    · exact .access hoff (exec_effect h)
  · unfold busAccess at h
    split at h
    · cases h
    · rw [if_pos (.inl hsize), takeFault_eq_next] at h
      exact h ▸ .fault ..

theorem stepEffect_of_resetAll (h : Machine.resetAll s = .next t) : StepEffect s .resetAll t := by
  unfold Machine.resetAll at h
  split at h
  · exact (takeFault_eq_next _ s t).mp h ▸ .resetFault _
  · rename_i y hy
    cases hc : boardClass s.ssys.board.did0 with
    | none => rw [Ssys.resetRegs_none hc] at hy; cases hy
    | some c =>
      rw [Ssys.resetRegs_some hc] at hy
      cases hy
      cases h
      exact .resetAll _ rfl rfl

theorem stepEffect_of_saveBlock {b : Block} {n : Nat} (h : saveBlock b n s = .next t) : StepEffect s (.save b n) t := by
  cases b with
  | gptm =>
    obtain ⟨g, hg, h⟩ := (withGptm_eq_next n s t _).mp h
    cases h
    refine .save _ _ _ (fun g' hg' => ?_) (fun _ => .inl) (fun _ => .inl) fun _ => .inl
    exact (List.mem_append.mp hg').imp_right fun h => by
      rw [List.mem_singleton.mp h]; exact List.mem_of_getElem? hg
  | ssys =>
    cases h
    exact .save _ _ _ (fun _ => .inl) (fun _ h => (List.mem_append.mp h).imp_right List.mem_singleton.mp) (fun _ => .inl)
      fun _ => .inl
  | i2c =>
    cases h
    exact .save _ _ _ (fun _ => .inl) (fun _ => .inl) (fun _ h => (List.mem_append.mp h).imp_right List.mem_singleton.mp)
      fun _ => .inl
  | adc =>
    cases h
    exact .save _ _ _ (fun _ => .inl) (fun _ => .inl) (fun _ => .inl)
      fun _ h => (List.mem_append.mp h).imp_right List.mem_singleton.mp

end Stimuli

/-- Every stimulus that answers a next state has one of the effects. -/
theorem perform_effect {x : Stimulus} {s t : State} (h : perform x s = .next t) : StepEffect s x t := by
  cases x with
  | access d b n off size v => exact stepEffect_of_busAccess ((hostStep_eq_next _ s t).mp h).2
  | event e n k =>
    obtain ⟨i, hi, h⟩ := runEvent_eq_next h
    exact .event hi (exec_effect h)
  | advance u =>
    obtain ⟨hu, -, rfl⟩ := (advanceTo_eq_next u s t).mp h
    exact .advance u hu
  | resetAll => exact stepEffect_of_resetAll ((hostStep_eq_next _ s t).mp h).2
  | save b n => exact stepEffect_of_saveBlock ((hostStep_eq_next _ s t).mp h).2
  | busTaken =>
    obtain ⟨hb, rfl⟩ := (busStep_eq_next _ _ s t).mp h
    exact .busTaken hb
  | busLetGo =>
    obtain ⟨hb, rfl⟩ := (busStep_eq_next _ _ s t).mp h
    exact .busLetGo hb
  | answerAcquire ok => cases h; exact .answerAcquire ok
  | answerRecv x => cases h; exact .answerRecv x

end Sys2Proof.Machine
end

section
/-! SUPPORT. The FIFO state word: its fields after each update, the explicit form of a push and a pop, the legal words and
their occupancy, and what the ADC's shared operations keep. -/

namespace Sys2Proof.Machine

/-! ## The fields of a FIFO state word after each update (10_state.md R58) -/

section Fields

variable (st : Word) (k : BitVec 4) (b : Bool)

@[simp] theorem fifoTail_setTail : fifoTail (setTail st k) = k := by
  apply BitVec.eq_of_getLsbD_eq
  intro j hj
  simp only [fifoTail, setTail, zextNibble, BitVec.getLsbD_extractLsb', BitVec.getLsbD_or]
  interval_cases j <;> simp

@[simp] theorem fifoHead_setTail : fifoHead (setTail st k) = fifoHead st := by
  apply BitVec.eq_of_getLsbD_eq
  intro j hj
  simp only [fifoHead, setTail, zextNibble, BitVec.getLsbD_extractLsb', BitVec.getLsbD_or]
  interval_cases j <;> simp

@[simp] theorem fifoEmpty_setTail : fifoEmpty (setTail st k) = fifoEmpty st := by
  simp [fifoEmpty, setTail, zextNibble, bit]

@[simp] theorem fifoFull_setTail : fifoFull (setTail st k) = fifoFull st := by
  simp [fifoFull, setTail, zextNibble, bit]

@[simp] theorem fifoTail_setHead : fifoTail (setHead st k) = fifoTail st := by
  apply BitVec.eq_of_getLsbD_eq
  intro j hj
  simp only [fifoTail, setHead, zextNibble, BitVec.getLsbD_extractLsb', BitVec.getLsbD_or]
  interval_cases j <;> simp

@[simp] theorem fifoHead_setHead : fifoHead (setHead st k) = k := by
  apply BitVec.eq_of_getLsbD_eq
  intro j hj
  simp only [fifoHead, setHead, zextNibble, BitVec.getLsbD_extractLsb', BitVec.getLsbD_or]
  interval_cases j <;> simp

@[simp] theorem fifoEmpty_setHead : fifoEmpty (setHead st k) = fifoEmpty st := by
  simp [fifoEmpty, setHead, zextNibble, bit]

@[simp] theorem fifoFull_setHead : fifoFull (setHead st k) = fifoFull st := by
  simp [fifoFull, setHead, zextNibble, bit]

@[simp] theorem fifoTail_setEmpty : fifoTail (setEmpty st b) = fifoTail st := by
  apply BitVec.eq_of_getLsbD_eq
  intro j hj
  cases b <;> simp only [fifoTail, setEmpty, setBit, BitVec.getLsbD_extractLsb'] <;> interval_cases j <;> simp

@[simp] theorem fifoHead_setEmpty : fifoHead (setEmpty st b) = fifoHead st := by
  apply BitVec.eq_of_getLsbD_eq
  intro j hj
  cases b <;> simp only [fifoHead, setEmpty, setBit, BitVec.getLsbD_extractLsb'] <;> interval_cases j <;> simp

@[simp] theorem fifoEmpty_setEmpty : fifoEmpty (setEmpty st b) = b := by
  cases b <;> simp [fifoEmpty, setEmpty, setBit, bit]

@[simp] theorem fifoFull_setEmpty : fifoFull (setEmpty st b) = fifoFull st := by
  cases b <;> simp [fifoFull, setEmpty, setBit, bit]

@[simp] theorem fifoTail_setFull : fifoTail (setFull st b) = fifoTail st := by
  apply BitVec.eq_of_getLsbD_eq
  intro j hj
  cases b <;> simp only [fifoTail, setFull, setBit, BitVec.getLsbD_extractLsb'] <;> interval_cases j <;> simp

@[simp] theorem fifoHead_setFull : fifoHead (setFull st b) = fifoHead st := by
  apply BitVec.eq_of_getLsbD_eq
  intro j hj
  cases b <;> simp only [fifoHead, setFull, setBit, BitVec.getLsbD_extractLsb'] <;> interval_cases j <;> simp

@[simp] theorem fifoEmpty_setFull : fifoEmpty (setFull st b) = fifoEmpty st := by
  cases b <;> simp [fifoEmpty, setFull, setBit, bit]

@[simp] theorem fifoFull_setFull : fifoFull (setFull st b) = b := by
  cases b <;> simp [fifoFull, setFull, setBit, bit]

end Fields

/-- The unnamed bits of a FIFO state word are 0 (10_state.md R58). -/
def UnnamedClear (st : Word) : Prop := st &&& ~~~0x11FF#32 = 0#32

section Unnamed

variable {st : Word} (h : UnnamedClear st) (k : BitVec 4) (b : Bool)

include h

theorem UnnamedClear.setTail : UnnamedClear (setTail st k) := by
  have hk : zextNibble k &&& ~~~0x11FF#32 = 0#32 := by revert k; decide
  rw [UnnamedClear, Machine.setTail, BitVec.and_or_distrib_right, and_and_eq_zero h, hk, BitVec.or_zero]

theorem UnnamedClear.setHead : UnnamedClear (setHead st k) := by
  have hk : (zextNibble k <<< 4) &&& ~~~0x11FF#32 = 0#32 := by revert k; decide
  rw [UnnamedClear, Machine.setHead, BitVec.and_or_distrib_right, and_and_eq_zero h, hk, BitVec.or_zero]

theorem UnnamedClear.setEmpty : UnnamedClear (setEmpty st b) := setBit_and_eq_zero h (by decide) b

theorem UnnamedClear.setFull : UnnamedClear (setFull st b) := setBit_and_eq_zero h (by decide) b

end Unnamed

/-- A FIFO state word is its four fields. -/
theorem fifoWord_ext {st st' : Word} (hu : UnnamedClear st) (hu' : UnnamedClear st') (ht : fifoTail st = fifoTail st')
    (hh : fifoHead st = fifoHead st') (he : fifoEmpty st = fifoEmpty st') (hf : fifoFull st = fifoFull st') : st = st' := by
  apply BitVec.eq_of_getLsbD_eq
  intro k hk
  have hub := congrArg (fun x : Word => x.getLsbD k) (hu.trans hu'.symm)
  have htb := congrArg (fun x : BitVec 4 => x.getLsbD k) ht
  have hhb := congrArg (fun x : BitVec 4 => x.getLsbD (k - 4)) hh
  simp only [fifoTail, fifoHead, BitVec.getLsbD_extractLsb', BitVec.getLsbD_and, fifoEmpty, fifoFull, bit] at *
  interval_cases k <;> simp_all

/-! ## The index after another (43_adc.md R260) -/

theorem nextIndex_toNat {p : Params} (h1 : 1 ≤ p.fifoCap) (h16 : p.fifoCap ≤ 16) (k : BitVec 4) :
    (nextIndex p k).toNat = (k.toNat + 1) % p.fifoCap := by
  have := Nat.mod_lt (k.toNat + 1) h1
  rw [nextIndex, BitVec.toNat_ofNat, Nat.mod_eq_of_lt (by omega)]

/-- The next index in a ring of `cap` places. -/
theorem ring_succ {cap h : Nat} (hh : h < cap) : (h + 1) % cap = if h + 1 = cap then 0 else h + 1 := by
  split
  · rw [‹h + 1 = cap›, Nat.mod_self]
  · exact Nat.mod_eq_of_lt (by omega)

/-- The distance from `t` to `h` in a ring of `cap` places. -/
theorem ring_sub {cap h t : Nat} (hh : h < cap) : (h + cap - t) % cap = if t ≤ h then h - t else (h + cap - t) % cap := by
  split
  · rw [show h + cap - t = h - t + cap by omega, Nat.add_mod_right, Nat.mod_eq_of_lt (by omega)]
  · rfl

/-! ## A push and a pop -/

/-- The tail catches the head as a pop advances it; under `Q_ADC_FIFO_TAIL_UNMASKED` the comparison has no modulus
(43_adc.md R261). -/
def tailCaught (p : Params) (st : Word) : Bool :=
  if p.quirks.adcFifoTailUnmasked then decide ((fifoTail st).toNat + 1 = (fifoHead st).toNat)
  else decide (nextIndex p (fifoTail st) = fifoHead st)

theorem pushWord_def (p : Params) (st : Word) :
    pushWord p st =
      if nextIndex p (fifoHead st) = fifoTail st then
        setFull (setHead (setEmpty st false) (nextIndex p (fifoHead st))) true
      else setHead (setEmpty st false) (nextIndex p (fifoHead st)) := rfl

theorem popWord_def (p : Params) (st : Word) :
    popWord p st =
      if tailCaught p st then setEmpty (setFull (setTail st (nextIndex p (fifoTail st))) false) true
      else setFull (setTail st (nextIndex p (fifoTail st))) false := rfl

/-- The explicit form of a push (43_adc.md R262). -/
theorem pushWord_eq {p : Params} (h1 : 1 ≤ p.fifoCap) (h16 : p.fifoCap ≤ 16) (st : Word) :
    pushWord p st =
      ((st &&& ~~~0x1F0#32) ||| BitVec.ofNat 32 (((fifoHead st).toNat + 1) % p.fifoCap * 16)) |||
        (if ((fifoHead st).toNat + 1) % p.fifoCap = (fifoTail st).toNat then 0x1000#32 else 0#32) := by
  have hset (k : BitVec 4) : setHead (setEmpty st false) k = (st &&& ~~~0x1F0#32) ||| BitVec.ofNat 32 (k.toNat * 16) := by
    have hk : zextNibble k <<< 4 = BitVec.ofNat 32 (k.toNat * 16) := by revert k; decide
    rw [setHead, hk, setEmpty, setBit, if_neg (by decide), BitVec.and_assoc]
    rfl
  simp only [pushWord_def, hset, ← BitVec.toNat_inj (x := nextIndex p _), nextIndex_toNat h1 h16]
  split
  · rfl
  · exact BitVec.or_zero.symm

/-- The explicit form of a pop (43_adc.md R261). -/
theorem popWord_eq {p : Params} (h1 : 1 ≤ p.fifoCap) (h16 : p.fifoCap ≤ 16) (st : Word) :
    popWord p st =
      ((st &&& ~~~0x100F#32) ||| BitVec.ofNat 32 (((fifoTail st).toNat + 1) % p.fifoCap)) |||
        (if tailCaught p st then 0x100#32 else 0#32) := by
  have hset (k : BitVec 4) : setFull (setTail st k) false = (st &&& ~~~0x100F#32) ||| BitVec.ofNat 32 k.toNat := by
    have hk : zextNibble k &&& ~~~0x1000#32 = BitVec.ofNat 32 k.toNat := by revert k; decide
    rw [setFull, setBit, if_neg (by decide), setTail, BitVec.and_or_distrib_right, BitVec.and_assoc]
    exact congrArg _ hk
  simp only [popWord_def, hset, nextIndex_toNat h1 h16]
  split
  · rfl
  · exact BitVec.or_zero.symm

section PushPop

variable (p : Params) (st : Word)

@[simp] theorem fifoTail_pushWord : fifoTail (pushWord p st) = fifoTail st := by
  rw [pushWord_def]; split <;> simp

@[simp] theorem fifoHead_pushWord : fifoHead (pushWord p st) = nextIndex p (fifoHead st) := by
  rw [pushWord_def]; split <;> simp

@[simp] theorem fifoEmpty_pushWord : fifoEmpty (pushWord p st) = false := by
  rw [pushWord_def]; split <;> simp

theorem fifoFull_pushWord :
    fifoFull (pushWord p st) = (decide (nextIndex p (fifoHead st) = fifoTail st) || fifoFull st) := by
  rw [pushWord_def]; split <;> simp_all

@[simp] theorem fifoTail_popWord : fifoTail (popWord p st) = nextIndex p (fifoTail st) := by
  rw [popWord_def]; split <;> simp

@[simp] theorem fifoHead_popWord : fifoHead (popWord p st) = fifoHead st := by
  rw [popWord_def]; split <;> simp

@[simp] theorem fifoFull_popWord : fifoFull (popWord p st) = false := by
  rw [popWord_def]; split <;> simp

theorem fifoEmpty_popWord {p : Params} (hq : p.quirks.adcFifoTailUnmasked = false) (st : Word) :
    fifoEmpty (popWord p st) = (decide (nextIndex p (fifoTail st) = fifoHead st) || fifoEmpty st) := by
  rw [popWord_def]
  split <;> simp_all [tailCaught]

theorem UnnamedClear.pushWord {st : Word} (h : UnnamedClear st) : UnnamedClear (pushWord p st) := by
  rw [pushWord_def]
  split
  · exact ((h.setEmpty false).setHead _).setFull true
  · exact (h.setEmpty false).setHead _

theorem UnnamedClear.popWord {st : Word} (h : UnnamedClear st) : UnnamedClear (popWord p st) := by
  rw [popWord_def]
  split
  · exact ((h.setTail _).setFull false).setEmpty true
  · exact (h.setTail _).setFull false

end PushPop

/-! ## Legal words and their occupancy (43_adc.md R260, R308) -/

section Legal

variable {p : Params} {st : Word} (h1 : 1 ≤ p.fifoCap) (h16 : p.fifoCap ≤ 16)

include h1 h16

/-- A push of a legal word that is not full is legal. -/
theorem FifoLegal.pushWord (h : FifoLegal p st) (hf : fifoFull st = false) : FifoLegal p (pushWord p st) where
  unnamed := UnnamedClear.pushWord p h.unnamed
  tail := by rw [fifoTail_pushWord]; exact h.tail
  head := by rw [fifoHead_pushWord, nextIndex_toNat h1 h16]; exact Nat.mod_lt _ h1
  meet hm := by
    rw [fifoHead_pushWord, fifoTail_pushWord] at hm
    simp [fifoFull_pushWord, hm]
  apart ha := by
    rw [fifoHead_pushWord, fifoTail_pushWord] at ha
    simp [fifoFull_pushWord, ha, hf]

/-- A pop of a legal word that is not empty is legal, with the quirk off. -/
theorem FifoLegal.popWord (hq : p.quirks.adcFifoTailUnmasked = false) (h : FifoLegal p st) (he : fifoEmpty st = false) :
    FifoLegal p (popWord p st) where
  unnamed := UnnamedClear.popWord p h.unnamed
  tail := by rw [fifoTail_popWord, nextIndex_toNat h1 h16]; exact Nat.mod_lt _ h1
  head := by rw [fifoHead_popWord]; exact h.head
  meet hm := by
    rw [fifoHead_popWord, fifoTail_popWord] at hm
    simp [fifoEmpty_popWord hq, hm]
  apart ha := by
    rw [fifoHead_popWord, fifoTail_popWord] at ha
    simp [fifoEmpty_popWord hq, he, Ne.symm ha]

end Legal

/-- Head and tail meet exactly in a legal word that is empty or full. -/
theorem FifoLegal.meet_iff {p : Params} {st : Word} (h : FifoLegal p st) :
    (fifoHead st).toNat = (fifoTail st).toNat ↔ fifoEmpty st = true ∨ fifoFull st = true := by
  rw [BitVec.toNat_inj]
  constructor
  · intro hm
    have := h.meet hm
    cases hf : fifoFull st <;> simp_all
  · intro hor
    by_contra ha
    obtain ⟨he, hf⟩ := h.apart ha
    simp_all

/-- No legal word is both empty and full. -/
theorem FifoLegal.not_empty_of_full {p : Params} {st : Word} (h : FifoLegal p st) (hf : fifoFull st = true) :
    fifoEmpty st = false := by
  have hm := h.meet (BitVec.eq_of_toNat_eq (h.meet_iff.mpr (.inr hf)))
  rw [hm, hf]; rfl

end Sys2Proof.Machine
end

section
namespace Sys2Proof.Machine

/-! ## The occupancy (43_adc.md R308) -/

theorem occupancy_of_full {p : Params} {st : Word} (hf : fifoFull st = true) : occupancy p st = p.fifoCap := by
  rw [occupancy, if_pos hf]

section Occupancy

variable {p : Params} {st : Word} (h : FifoLegal p st)

include h

theorem occupancy_of_empty (he : fifoEmpty st = true) : occupancy p st = 0 := by
  have hf : fifoFull st = false := by
    cases hf : fifoFull st
    · rfl
    · rw [h.not_empty_of_full hf] at he; cases he
  rw [occupancy, if_neg (Bool.eq_false_iff.mp hf), if_pos he]

/-- Neither empty nor full: the distance from the tail to the head. -/
theorem occupancy_of_apart (ha : (fifoHead st).toNat ≠ (fifoTail st).toNat) :
    occupancy p st =
      if (fifoTail st).toNat ≤ (fifoHead st).toNat then (fifoHead st).toNat - (fifoTail st).toNat
      else (fifoHead st).toNat + p.fifoCap - (fifoTail st).toNat := by
  obtain ⟨he, hf⟩ := h.apart fun hm => ha (congrArg BitVec.toNat hm)
  have htail := h.tail
  rw [occupancy, if_neg (Bool.eq_false_iff.mp hf), if_neg (Bool.eq_false_iff.mp he), ring_sub h.head]
  split
  · rfl
  · exact Nat.mod_eq_of_lt (by omega)

theorem occupancy_le : occupancy p st ≤ p.fifoCap := by
  by_cases ha : (fifoHead st).toNat = (fifoTail st).toNat
  · obtain he | hf := h.meet_iff.mp ha
    · rw [occupancy_of_empty h he]; exact Nat.zero_le _
    · exact (occupancy_of_full hf).le
  · have hhead := h.head
    rw [occupancy_of_apart h ha]
    split <;> omega

variable (h1 : 1 ≤ p.fifoCap) (h16 : p.fifoCap ≤ 16)

include h1 h16

/-- A push of a word that is not full: the head moves one place on from the tail, and onto it when the FIFO fills. -/
theorem occupancy_pushWord (hf : fifoFull st = false) : occupancy p (pushWord p st) = occupancy p st + 1 := by
  have hlegal := h.pushWord h1 h16 hf
  have htail := h.tail
  have hhead := h.head
  have hnext : (fifoHead (pushWord p st)).toNat =
      if (fifoHead st).toNat + 1 = p.fifoCap then 0 else (fifoHead st).toNat + 1 := by
    rw [fifoHead_pushWord, nextIndex_toNat h1 h16, ring_succ hhead]
  have hafter : occupancy p (pushWord p st) =
      if (fifoHead (pushWord p st)).toNat = (fifoTail st).toNat then p.fifoCap
      else if (fifoTail st).toNat ≤ (fifoHead (pushWord p st)).toNat then
        (fifoHead (pushWord p st)).toNat - (fifoTail st).toNat
      else (fifoHead (pushWord p st)).toNat + p.fifoCap - (fifoTail st).toNat := by
    have hmeet := hlegal.meet_iff
    rw [fifoTail_pushWord, fifoEmpty_pushWord] at hmeet
    split
    case isTrue hm => exact occupancy_of_full ((hmeet.mp hm).resolve_left (by decide))
    case isFalse hm => rw [occupancy_of_apart hlegal (by rwa [fifoTail_pushWord]), fifoTail_pushWord]
  by_cases ha : (fifoHead st).toNat = (fifoTail st).toNat
  · have he : fifoEmpty st = true := (h.meet_iff.mp ha).resolve_right (by simp [hf])
    rw [occupancy_of_empty h he, hafter, hnext]
    split_ifs <;> omega
  · rw [occupancy_of_apart h ha, hafter, hnext]
    split_ifs <;> omega

/-- A pop of a word that is not empty: the tail moves one place on towards the head, and onto it when the FIFO empties. -/
theorem occupancy_popWord (hq : p.quirks.adcFifoTailUnmasked = false) (he : fifoEmpty st = false) :
    occupancy p (popWord p st) + 1 = occupancy p st := by
  have hlegal := h.popWord h1 h16 hq he
  have htail := h.tail
  have hhead := h.head
  have hnext : (fifoTail (popWord p st)).toNat =
      if (fifoTail st).toNat + 1 = p.fifoCap then 0 else (fifoTail st).toNat + 1 := by
    rw [fifoTail_popWord, nextIndex_toNat h1 h16, ring_succ htail]
  have hafter : occupancy p (popWord p st) =
      if (fifoHead st).toNat = (fifoTail (popWord p st)).toNat then 0
      else if (fifoTail (popWord p st)).toNat ≤ (fifoHead st).toNat then
        (fifoHead st).toNat - (fifoTail (popWord p st)).toNat
      else (fifoHead st).toNat + p.fifoCap - (fifoTail (popWord p st)).toNat := by
    have hmeet := hlegal.meet_iff
    rw [fifoHead_popWord, fifoFull_popWord] at hmeet
    split
    case isTrue hm => exact occupancy_of_empty hlegal ((hmeet.mp hm).resolve_right (by decide))
    case isFalse hm => rw [occupancy_of_apart hlegal (by rwa [fifoHead_popWord]), fifoHead_popWord]
  by_cases ha : (fifoHead st).toNat = (fifoTail st).toNat
  · have hf : fifoFull st = true := (h.meet_iff.mp ha).resolve_left (by simp [he])
    rw [occupancy_of_full hf, hafter, hnext]
    split_ifs <;> omega
  · rw [occupancy_of_apart h ha, hafter, hnext]
    split_ifs <;> omega

end Occupancy

/-! ## The FIFO of a sequencer -/

/-- The slot at an index, as a place of the list of slots. -/
theorem Fifo.slot_eq (f : Fifo) (k : BitVec 4) : f.slot k = f.data.toList.getD k.toNat 0#32 := by
  rw [Fifo.slot, List.getD_eq_getElem?_getD, List.getElem?_eq_getElem (by simpa using k.isLt)]
  simp

theorem Adc.fifoWrite_noise (p : Params) (a : Adc) (n : Fin 4) (x : Word) : (a.fifoWrite p n x).noise = a.noise := by
  unfold Adc.fifoWrite; split <;> rfl

/-- The SSFIFOn read, all its fields at once (43_adc.md R261, R282). -/
theorem readFifo_eq {s : State} (h1 : 1 ≤ s.params.fifoCap) (h16 : s.params.fifoCap ≤ 16) (n : Fin 4) :
    readFifo n s =
      .next
        { s with
          readData := s.adc.fifo[n].data.toList.getD (fifoTail s.adc.fifo[n].state).toNat 0#32
          adc :=
            if fifoEmpty s.adc.fifo[n].state then { s.adc with underflow := s.adc.underflow ||| (1#32 <<< n.val) }
            else
              { s.adc with
                fifo :=
                  s.adc.fifo.set n
                    { s.adc.fifo[n] with
                      state :=
                        ((s.adc.fifo[n].state &&& ~~~0x100F#32) |||
                            BitVec.ofNat 32 (((fifoTail s.adc.fifo[n].state).toNat + 1) % s.params.fifoCap)) |||
                          (if tailCaught s.params s.adc.fifo[n].state then 0x100#32 else 0#32) } } } := by
  rw [← popWord_eq h1 h16, ← Fifo.slot_eq]
  rfl

/-- The word of an SSFIFOn read runs `readFifo`. -/
theorem wordRuns_of_readFifo {m : Nat} {v : Word} {i : Instr} {s t : State} (off : BitVec 12) (n : Fin 4)
    (hd : decodeAccess .adc .read off m v = i) (hx : exec i s = readFifo n s) (h : readFifo n s = .next t) :
    WordRuns (accessWord .adc .read off) m v i s t :=
  wordRuns_of_access .adc .read off hd (hx.trans h)

theorem tailCaught_eq {p : Params} (h1 : 1 ≤ p.fifoCap) (h16 : p.fifoCap ≤ 16) (st : Word) :
    tailCaught p st =
      if p.quirks.adcFifoTailUnmasked then decide ((fifoTail st).toNat + 1 = (fifoHead st).toNat)
      else decide (((fifoTail st).toNat + 1) % p.fifoCap = (fifoHead st).toNat) := by
  simp only [tailCaught, ← BitVec.toNat_inj (x := nextIndex p _), nextIndex_toNat h1 h16]

end Sys2Proof.Machine
end

section
namespace Sys2Proof.Proofs

open Sys2Proof.Machine

/-- Settles O44: the distance of head and tail moves by one place with each push and each pop. -/
theorem occupancyCountsSamples : Obligations.OccupancyCountsSamples := by
  intro p st h1 h16 hq h
  exact
    ⟨occupancy_le h, fun hf => ⟨occupancy_pushWord h h1 h16 hf, h.pushWord h1 h16 hf⟩,
      fun he => ⟨occupancy_popWord h h1 h16 hq he, h.popWord h1 h16 hq he⟩⟩

/-- Settles O40: each word is the read of one sequencer's FIFO, in the explicit form of `readFifo_eq`. -/
theorem fifoPop : Obligations.FifoPop := by
  intro s m v h1 h16 after
  have hread (n : Fin 4) : readFifo n s = .next (after n) := by
    rw [readFifo_eq h1 h16, tailCaught_eq h1 h16]; rfl
  exact
    ⟨wordRuns_of_readFifo 0x048#12 0 rfl rfl (hread 0), wordRuns_of_readFifo 0x068#12 1 rfl rfl (hread 1),
      wordRuns_of_readFifo 0x088#12 2 rfl rfl (hread 2), wordRuns_of_readFifo 0x0A8#12 3 rfl rfl (hread 3)⟩

/-- Settles O41: the two cases of a write to a FIFO, the stored one in the explicit form of `pushWord_eq`. -/
theorem fifoPush : Obligations.FifoPush := by
  intro p a n x h1 h16 f tail head next
  refine ⟨fun hf => Adc.fifoWrite_of_full hf p x, fun hf => ⟨head.isLt, ?_⟩⟩
  rw [Adc.fifoWrite_of_not_full hf, pushWord_eq h1 h16]
  rfl

end Sys2Proof.Proofs
end

section
/-! SUPPORT. What a sample leaves: the FIFO that as many samples fill, the turn of a sequencer in a trigger, and what each ADC
operation keeps of the ADC's bounds. -/

namespace Sys2Proof.Machine

/-! ## Samples into one FIFO -/

theorem take_succ_set {α : Type} {l : List α} {k : Nat} (h : k < l.length) (x : α) :
    (l.set k x).take (k + 1) = l.take k ++ [x] := by
  rw [List.take_add_one]
  simp [h, List.take_set_of_le]

/-- The FIFO of a sequencer after the samples `xs` were stored in it, which was empty with both indices 0. -/
structure Filled (p : Params) (xs : List Word) (f : Fifo) : Prop where
  unnamed : UnnamedClear f.state
  tail : (fifoTail f.state).toNat = 0
  head : (fifoHead f.state).toNat = xs.length % p.fifoCap
  empty : fifoEmpty f.state = decide (xs.length = 0)
  full : fifoFull f.state = decide (xs.length = p.fifoCap)
  data : f.data.toList.take xs.length = xs

theorem Adc.fifoWrite_fifo_self {a : Adc} {n : Fin 4} (h : fifoFull a.fifo[n].state = false) (p : Params) (x : Word) :
    (a.fifoWrite p n x).fifo[n] =
      { state := pushWord p a.fifo[n].state
        data := a.fifo[n].data.set (fifoHead a.fifo[n].state).toNat x (fifoHead a.fifo[n].state).isLt } := by
  rw [Adc.fifoWrite_of_not_full h]
  exact Vector.getElem_set_self n.isLt

theorem Adc.fifoWrite_overflow {a : Adc} {n : Fin 4} (h : fifoFull a.fifo[n].state = false) (p : Params) (x : Word) :
    (a.fifoWrite p n x).overflow = a.overflow := by
  rw [Adc.fifoWrite_of_not_full h]

section Samples

variable {p : Params} (h1 : 1 ≤ p.fifoCap) (h16 : p.fifoCap ≤ 16)

include h1 h16

/-- One more sample is stored while there is room. -/
theorem Filled.push {xs : List Word} {f : Fifo} (h : Filled p xs f) (hlen : xs.length < p.fifoCap) (x : Word) :
    Filled p (xs ++ [x])
      { state := pushWord p f.state
        data := f.data.set (fifoHead f.state).toNat x (fifoHead f.state).isLt } := by
  have hhead : (fifoHead f.state).toNat = xs.length := h.head.trans (Nat.mod_eq_of_lt hlen)
  have hnext : (nextIndex p (fifoHead f.state)).toNat = (xs.length + 1) % p.fifoCap := by
    rw [nextIndex_toNat h1 h16, hhead]
  have hmeet : nextIndex p (fifoHead f.state) = fifoTail f.state ↔ xs.length + 1 = p.fifoCap := by
    rw [← BitVec.toNat_inj, hnext, h.tail, ring_succ hlen]
    split <;> simp_all
  refine ⟨h.unnamed.pushWord p, ?_, ?_, ?_, ?_, ?_⟩
  · rw [fifoTail_pushWord, h.tail]
  · rw [fifoHead_pushWord, hnext, List.length_append]; rfl
  · simp
  · rw [fifoFull_pushWord, h.full, decide_eq_decide.mpr hmeet, List.length_append, decide_eq_false (Nat.ne_of_lt hlen),
      Bool.or_false]
    rfl
  · simp only [hhead, Vector.toList_set, List.length_append, List.length_singleton]
    rw [take_succ_set (by rw [Vector.length_toList]; omega), h.data]

/-- As many samples as there is room for are all stored, and no overflow bit is set. -/
theorem filled_foldl {a : Adc} {n : Fin 4} (ha : Filled p [] a.fifo[n]) (xs : List Word) (hlen : xs.length ≤ p.fifoCap) :
    Filled p xs (xs.foldl (fun b x => b.fifoWrite p n x) a).fifo[n] ∧
      (xs.foldl (fun b x => b.fifoWrite p n x) a).overflow = a.overflow := by
  induction xs using List.reverseRecOn with
  | nil => exact ⟨ha, rfl⟩
  | append_singleton xs x ih =>
    rw [List.length_append, List.length_singleton] at hlen
    obtain ⟨hfilled, hover⟩ := ih (by omega)
    rw [List.foldl_append, List.foldl_cons, List.foldl_nil]
    generalize xs.foldl (fun b x => b.fifoWrite p n x) a = b at hfilled hover ⊢
    have hroom := hfilled.full.trans (decide_eq_false (Nat.ne_of_lt hlen))
    rw [Adc.fifoWrite_fifo_self hroom, Adc.fifoWrite_overflow hroom]
    exact ⟨hfilled.push h1 h16 hlen x, hover⟩

end Samples

/-- A FIFO whose state word is the reset value holds no sample. -/
theorem filled_nil {f : Fifo} (h : f.state = 0x100#32) (p : Params) (h1 : 1 ≤ p.fifoCap) : Filled p [] f := by
  refine ⟨?_, ?_, ?_, ?_, ?_, rfl⟩ <;> rw [h]
  · rfl
  · rfl
  · exact (Nat.zero_mod _).symm
  · rfl
  · exact (decide_eq_false (by simp; omega)).symm

/-- A FIFO that holds as many samples as it has room for has the full state word with both indices 0. -/
theorem Filled.state_of_full {p : Params} {xs : List Word} {f : Fifo} (h : Filled p xs f) (h1 : 1 ≤ p.fifoCap)
    (hlen : xs.length = p.fifoCap) : f.state = 0x1000#32 := by
  refine fifoWord_ext h.unnamed rfl (BitVec.eq_of_toNat_eq h.tail) (BitVec.eq_of_toNat_eq ?_)
    (h.empty.trans (decide_eq_false (by omega))) (h.full.trans (decide_eq_true hlen))
  rw [h.head, hlen, Nat.mod_self]
  rfl

/-! ## The trigger -/

/-- A sequencer's turn in a trigger, on the registers' values (43_adc.md R263, R264). -/
theorem Adc.sampleInto_eq (p : Params) (a : Adc) (n : Fin 4) :
    a.sampleInto p n =
      if n.val < p.numSeq ∧ a.activeSequencers.getLsbD n.val = true ∧
          a.sampleSource.toNat / 2 ^ (4 * n.val) % 2 ^ p.adcEmuxCmpWidth = p.adcEmuxTimer then
        { ({ a with noise := nextNoise p a.noise } : Adc).fifoWrite p n (sampleOf (nextNoise p a.noise)) with
          rawInterruptStatus :=
            (({ a with noise := nextNoise p a.noise } : Adc).fifoWrite p n
              (sampleOf (nextNoise p a.noise))).rawInterruptStatus ||| (1#32 <<< n.val) }
      else a := by
  have hcond : a.triggered p n = true ↔
      n.val < p.numSeq ∧ a.activeSequencers.getLsbD n.val = true ∧
        a.sampleSource.toNat / 2 ^ (4 * n.val) % 2 ^ p.adcEmuxCmpWidth = p.adcEmuxTimer := by
    simp only [Adc.triggered, emuxField, Nat.shiftRight_eq_div_pow, Bool.and_eq_true, decide_eq_true_eq, and_assoc]
  simp only [← hcond]
  rfl

end Sys2Proof.Machine
end

section
namespace Sys2Proof.Proofs

open Sys2Proof.Machine

/-- Settles O43: the FIFO filled sample by sample is full, so the next sample is dropped. -/
theorem seventeenthSampleIsDropped : Obligations.SeventeenthSampleIsDropped := by
  intro p a n xs y h1 h16 hempty hlen full
  obtain ⟨hfilled, hover⟩ := filled_foldl h1 h16 (filled_nil hempty p h1) xs hlen.le
  refine ⟨hfilled.state_of_full h1 hlen, hlen ▸ hfilled.data, hover, ?_⟩
  exact Adc.fifoWrite_of_full (hfilled.full.trans (decide_eq_true hlen)) p y

end Sys2Proof.Proofs
end

section
/-! SUPPORT. When a stimulus runs the operation it decodes to, and when it is held back or faults. -/

namespace Sys2Proof.Machine

/-! ## Host steps and the timing -/

theorem hostStep_of_free {s : State} (h : s.hostBlocked = false) (k : State → Result) : hostStep k s = k s := by
  rw [hostStep, h]; rfl

theorem hostStep_of_blocked {s : State} (h : s.hostBlocked = true) (k : State → Result) :
    hostStep k s = .refused .fireDueFirst := by
  rw [hostStep, h]; rfl

theorem Gptm.dueAt_iff (g : Gptm) (now : Nat) :
    g.dueAt now = true ↔
      (g.armed.a = true ∧ g.nextDeadline.a = now) ∨ (g.armed.b = true ∧ g.nextDeadline.b = now) := by
  simp [Gptm.dueAt]

/-- The host is held back under `exact` alone, by a deadline that is due now (20_memory.md R83). -/
theorem State.hostBlocked_iff (s : State) :
    s.hostBlocked = true ↔ s.params.fireTiming = .exact ∧ ∃ g ∈ s.gptm, g.dueAt s.now = true := by
  unfold State.hostBlocked
  split <;> simp_all

theorem Gptm.noDeadlineBefore_iff (g : Gptm) (t : Nat) :
    g.noDeadlineBefore t = true ↔
      (g.armed.a = true → t ≤ g.nextDeadline.a) ∧ (g.armed.b = true → t ≤ g.nextDeadline.b) := by
  simp only [Gptm.noDeadlineBefore, Bool.and_eq_true, Bool.or_eq_true, Bool.not_eq_true', decide_eq_true_eq,
    ← Bool.not_eq_true, imp_iff_not_or]

/-- Time passes freely under `free`, and under `exact` up to the earliest armed deadline (20_memory.md R83). -/
theorem State.mayAdvanceTo_iff (s : State) (t : Nat) :
    s.mayAdvanceTo t = true ↔ (s.params.fireTiming = .exact → ∀ g ∈ s.gptm, g.noDeadlineBefore t = true) := by
  unfold State.mayAdvanceTo
  split <;> simp_all

theorem advanceTo_of_back {u : Nat} {s : State} (h : u < s.now) : advanceTo u s = .refused .timeBackwards := if_pos h

theorem advanceTo_of_held {u : Nat} {s : State} (h : s.now ≤ u) (hm : s.mayAdvanceTo u = false) :
    advanceTo u s = .refused .fireDueFirst := by
  rw [advanceTo, if_neg (Nat.not_lt.mpr h), hm]; rfl

/-! ## Accesses -/

section Access

variable {d : Dir} {b : Block} {n off size : Nat} {v : Word} {s : State} (hb : s.hasBlock b n = true)

include hb

theorem busAccess_of_badSize (h : size ≠ 4 ∨ off % 4 ≠ 0) :
    busAccess d b n off size v s = takeFault .accessSize s := by
  rw [busAccess, hb, if_neg (by decide), if_pos h]

theorem busAccess_of_outside (halign : off % 4 = 0) (h : s.params.regionSize ≤ off ∨ 0x1000 ≤ off) :
    busAccess d b n off 4 v s = takeFault (badOffset b) s := by
  rw [busAccess, hb, if_neg (by decide), if_neg (by omega), if_pos h]

/-- An access that passes the checks is the operation of its word (20_memory.md R72). -/
theorem busAccess_of_inside (halign : off % 4 = 0) (hregion : off < s.params.regionSize) (hoff : off < 0x1000) :
    busAccess d b n off 4 v s = exec (decodeAccess b d (BitVec.ofNat 12 off) n v) s := by
  rw [busAccess, hb, if_neg (by decide), if_neg (by omega), if_neg (by omega), runRequest, decode_accessWord]

end Access

/-! ## Events -/

/-- The operation is one of the four block resets (30_encoding.md R97). -/
def isBlockReset (i : Instr) : Bool :=
  match i with
  | .gptmEvReset _ | .ssysEvReset | .i2cEvReset | .adcEvReset => true
  | _ => false

theorem isReset_of_decode {r : OpRequest} {i : Instr} (hd : decode r = .ok i) : isReset r = isBlockReset i := by
  unfold isReset
  rw [hd]
  cases i <;> rfl

theorem isTrigger_of_decode {r : OpRequest} {i : Instr} (hd : decode r = .ok i) :
    isTrigger r = decide (i = .adcEvTrigger) := by
  unfold isTrigger
  rw [hd]
  split
  case h_1 h => cases h; rfl
  case h_2 h => exact (decide_eq_false fun hi => h (congrArg Except.ok hi)).symm

section Event

variable {e : BitVec 15} {n : Nat} {k : Word} {i : Instr} {s : State} (hd : decode ⟨1#1 ++ e, n, k⟩ = .ok i)

include hd

/-- An event that `FIRE_TIMING` does not hold back, and the trigger where it is wired, is the operation of its word
(20_memory.md R82, R83). -/
theorem perform_event_of_enabled (hr : s.hostBlocked = false ∨ isReset ⟨1#1 ++ e, n, k⟩ = false)
    (ht : s.params.adcTriggerWired = true ∨ i ≠ .adcEvTrigger) : perform (.event e n k) s = exec i s := by
  have hreset : (isReset ⟨1#1 ++ e, n, k⟩ && s.hostBlocked) = false := by
    obtain h | h := hr <;> simp [h]
  have htrigger : (isTrigger ⟨1#1 ++ e, n, k⟩ && !s.params.adcTriggerWired) = false := by
    rw [isTrigger_of_decode hd]
    obtain h | h := ht <;> simp [h]
  rw [perform, runEvent, hreset, htrigger, if_neg (by decide), if_neg (by decide), runRequest, hd]

/-- An event that is no reset and not the trigger is never held back (20_memory.md R83). -/
theorem perform_event (hr : isBlockReset i = false) (ht : i ≠ .adcEvTrigger) :
    perform (.event e n k) s = exec i s :=
  perform_event_of_enabled hd (.inr ((isReset_of_decode hd).trans hr)) (.inr ht)

/-- A reset is held back while the host is (20_memory.md R83). -/
theorem perform_reset_of_blocked (hr : isBlockReset i = true) (h : s.hostBlocked = true) :
    perform (.event e n k) s = .refused .fireDueFirst := by
  rw [perform, runEvent, isReset_of_decode hd, hr, h]; rfl

end Event

end Sys2Proof.Machine
end

section
namespace Sys2Proof.Proofs

open Sys2Proof.Machine

/-- Settles O1: the stimulus at the head is performed, and it is not held back. -/
theorem stepRunsDecodedOperation : Obligations.StepRunsDecodedOperation := by
  intro s rest i hf _
  refine ⟨fun d b n off v hp hb halign hregion hoff hfree hd => ?_, fun e n k hp hd hr ht => ?_⟩
  · rw [decode_accessWord] at hd
    cases hd
    exact (step_of_pending hf hp).trans
      ((hostStep_of_free (s := { s with pending := rest }) hfree _).trans (busAccess_of_inside hb halign hregion hoff))
  · exact (step_of_pending hf hp).trans (perform_event_of_enabled hd hr ht)

/-- Settles O2: the three outcomes of an access in the order of its checks. -/
theorem accessChecksComeBeforeDecode : Obligations.AccessChecksComeBeforeDecode := by
  intro s d n off size v hfree
  have hrun {b : Block} : perform (.access d b n off size v) s = busAccess d b n off size v s := hostStep_of_free hfree _
  refine ⟨fun b hb h => ?_, ?_, ?_⟩
  · exact hrun.trans (busAccess_of_badSize hb h)
  · rintro rfl halign h
    refine ⟨fun hn => ?_, ?_, ?_, ?_⟩
    · exact hrun.trans (busAccess_of_outside (b := .gptm) (decide_eq_true hn) halign h)
    · exact hrun.trans (busAccess_of_outside (b := .ssys) rfl halign h)
    · exact hrun.trans (busAccess_of_outside (b := .i2c) rfl halign h)
    · exact hrun.trans (busAccess_of_outside (b := .adc) rfl halign h)
  · rintro b hb rfl halign hregion hoff
    exact hrun.trans (busAccess_of_inside hb halign hregion hoff)

/-- Settles O3: `step` looks at the recorded fault before anything else. -/
theorem faultIsTerminal : Obligations.FaultIsTerminal := by
  intro s c
  have hstop (t : State) (h : t.faulted = some c) : step t = .fault (.halted c) := by rw [step, h]
  refine ⟨rfl, hstop s, fun t ht => hstop t ?_⟩
  rw [(takeFault_eq_next c s t).mp ht]

/-- Settles O5: each word is the access word of its block, direction and offset. -/
theorem wordsOfEachBlockDecode : Obligations.WordsOfEachBlockDecode := by
  intro n v
  exact
    ⟨decode_accessWord .gptm .read 0x00C#12 n v, decode_accessWord .gptm .write 0x00C#12 n v,
      decode_accessWord .ssys .read 0x060#12 n v, decode_accessWord .ssys .write 0x050#12 n v,
      decode_accessWord .i2c .read 0x004#12 n v, decode_accessWord .i2c .write 0x010#12 n v,
      decode_accessWord .adc .read 0x0A8#12 n v, decode_accessWord .adc .write 0x044#12 n v,
      decode_accessWord .gptm .read 0x010#12 n v⟩

/-- Settles O42: a sequencer's turn is `Adc.sampleInto`; the event alone runs only where the input is wired. -/
theorem triggerEvent : Obligations.TriggerEvent := by
  intro s m v p turn
  have hturn (n : Fin 4) (a : Adc) : turn n a = a.sampleInto p n := (a.sampleInto_eq p n).symm
  have hd : decode ⟨1#1 ++ 0x6000#15, m, v⟩ = .ok .adcEvTrigger := decode_eventWord .adc 0x000#12 m v
  refine ⟨⟨hd, ?_⟩, fun hw => perform_event_of_enabled hd (.inr (isReset_of_decode hd)) (.inl hw), fun hw => ?_⟩
  · simp only [hturn]; rfl
  · rw [perform, runEvent, isReset_of_decode hd, isTrigger_of_decode hd, hw]; rfl

/-- Settles O51: an advance back in time, one that is free, and one past an armed deadline. -/
theorem advanceFollowsFireTiming : Obligations.AdvanceFollowsFireTiming := by
  intro s t
  have hgo (hle : s.now ≤ t) (hm : s.mayAdvanceTo t = true) : perform (.advance t) s = .next { s with now := t } :=
    (advanceTo_eq_next t s _).mpr ⟨hle, hm, rfl⟩
  refine ⟨advanceTo_of_back, fun hle hfree => ?_, fun hle _ hall => ?_, fun hle hexact hex => ?_⟩
  · exact hgo hle ((s.mayAdvanceTo_iff t).mpr fun h => absurd (hfree.symm.trans h) (by decide))
  · exact hgo hle ((s.mayAdvanceTo_iff t).mpr fun _ g hg => (g.noDeadlineBefore_iff t).mpr (hall g hg))
  · refine advanceTo_of_held hle (Bool.eq_false_iff.mpr fun hm => ?_)
    obtain ⟨g, hg, h⟩ := hex
    obtain ⟨ha, hb⟩ := (g.noDeadlineBefore_iff t).mp ((s.mayAdvanceTo_iff t).mp hm hexact g hg)
    obtain ⟨harmed, hlt⟩ | ⟨harmed, hlt⟩ := h
    · exact absurd (ha harmed) (Nat.not_le.mpr hlt)
    · exact absurd (hb harmed) (Nat.not_le.mpr hlt)

/-- Settles O52: the host steps and the four reset events are held back, the fires and restores are not. -/
theorem hostStepsWaitForADueDeadline : Obligations.HostStepsWaitForADueDeadline := by
  intro s
  refine ⟨?_, fun hblock => ⟨fun _ _ _ _ _ _ => hostStep_of_blocked hblock _, hostStep_of_blocked hblock _,
    fun _ _ => hostStep_of_blocked hblock _, fun e he n k => ?_⟩, fun n k => ⟨?_, ?_, ?_, ?_, ?_, ?_⟩⟩
  · simp only [s.hostBlocked_iff, Gptm.dueAt_iff]
  · simp only [List.mem_cons, List.not_mem_nil, or_false] at he
    obtain rfl | rfl | rfl | rfl := he
    · exact perform_reset_of_blocked (decode_eventWord .gptm 0xFFF#12 n k) rfl hblock
    · exact perform_reset_of_blocked (decode_eventWord .ssys 0xFFF#12 n k) rfl hblock
    · exact perform_reset_of_blocked (decode_eventWord .i2c 0xFFF#12 n k) rfl hblock
    · exact perform_reset_of_blocked (decode_eventWord .adc 0xFFF#12 n k) rfl hblock
  · exact perform_event (decode_eventWord .gptm 0x000#12 n k) rfl nofun
  · exact perform_event (decode_eventWord .gptm 0x001#12 n k) rfl nofun
  · exact perform_event (decode_eventWord .gptm 0xFFE#12 n k) rfl nofun
  · exact perform_event (decode_eventWord .ssys 0xFFE#12 n k) rfl nofun
  · exact perform_event (decode_eventWord .i2c 0xFFE#12 n k) rfl nofun
  · exact perform_event (decode_eventWord .adc 0xFFE#12 n k) rfl nofun

/-- Settles O53: a line is high where raw status and mask have a bit in common. -/
theorem interruptLines : Obligations.InterruptLines := by
  have hline (raw mask : Word) : lineLevel raw mask = true ↔ raw &&& mask ≠ 0#32 := by
    simp [lineLevel, maskedStatus]
  refine ⟨fun g => hline _ _, fun y => hline _ _, fun x => hline _ _, fun a n => ?_⟩
  rw [Adc.irq, bit, BitVec.getLsbD_ushiftRight, Nat.add_zero, maskedStatus]

end Sys2Proof.Proofs
end

section
/-! SUPPORT. The CTL write under the quirk flag, runs of fires, and the prescale registers. -/

namespace Sys2Proof.Machine

/-! ## Reads of the timer values, and faults -/

section TimerWords

variable {n : Nat} {v : Word} {s : State} {g : Gptm} (hg : s.gptm[n]? = some g)

include hg

/-- The word of a GPTM access that always faults. -/
theorem wordRuns_of_faultGptm {i : Instr} {c : FaultCode} (d : Dir) (off : BitVec 12)
    (hd : decodeAccess .gptm d off n v = i) (hx : exec i s = faultGptm n c s) :
    WordRuns (accessWord .gptm d off) n v i s { s with faulted := some c } :=
  wordRuns_of_accessFault .gptm d off hd (hx.trans (withGptm_some hg _))

theorem execGptmRTar_eq :
    exec (.gptmRTar n) s =
      if (if s.params.quirks.tarControlTest then g.control = 1#32 else g.config = 1#32) then returnValue g.rtcCounter s
      else takeFault .gptmTimerValue s :=
  withGptm_some hg _

end TimerWords

/-! ## The CTL write with the quirk flag set (93_implementation_defined.md section 3) -/

/-- The timer block after an enable bit of channel `c` went from `old` to `new`: a 0-to-1 change arms the channel at `t`, a
1-to-0 change disarms it. -/
def Gptm.armOnChange (g : Gptm) (c : Channel) (old new : Bool) (t : Nat) : Gptm :=
  { g with
    armed := g.armed.set c (if !old && new then true else if old && !new then false else g.armed.get c)
    nextDeadline := g.nextDeadline.set c (if !old && new then t else g.nextDeadline.get c) }

/-- An enable bit whose reload, where it goes 0 to 1, arms the channel at `t`. -/
theorem Gptm.enableChange_of_arms {p : Params} {scale now t : Nat} {c : Channel} {old new : Bool} {g : Gptm}
    (h : (!old && new) = true → g.reload p scale c now = (g.arm c t).ok) :
    Gptm.enableChange p scale now c old new g = (g.armOnChange c old new t).ok := by
  obtain ⟨rfl, heq⟩ | ⟨rfl, rfl, heq⟩ | ⟨rfl, rfl, heq⟩ := Gptm.enableChange_cases p scale now c old new g <;> rw [heq]
  · simp [Gptm.armOnChange, Pair.set_get_self]
  · exact h rfl
  · simp [Gptm.armOnChange, Gptm.disarm, Pair.set_get_self]

/-- Under the quirk flag a reload of a PWM channel on the mode path arms it at the base. -/
theorem Gptm.reload_of_pwmQuirk {g : Gptm} {p : Params} {c : Channel} (hcfg : 2#32 ≤ g.config)
    (hq : p.quirks.pwmImmediateFire = true) (hm : g.mode.get c = p.pwmSentinel) (scale base : Nat) :
    g.reload p scale c base = (g.arm c base).ok := by
  simp [Gptm.reload, config_ne_zero hcfg, config_ne_one hcfg, hm, hq]

/-! ## When a fire is enabled (20_memory.md R83) -/

theorem commitGptm_isNext (n : Nat) (r : GptmRun) (s : State) : ∃ t, commitGptm n r s = .next t := by
  unfold commitGptm
  split <;> exact ⟨_, rfl⟩

section FireChannel

variable {n : Nat} {c : Channel} {g : Gptm} {s : State} (hg : s.gptm[n]? = some g) (pulses : Gptm → Bool)
  (body : Gptm → GptmRun)

include hg

theorem fireChannel_isNext_iff :
    (∃ t, fireChannel n c pulses body s = .next t) ↔ g.armed.get c = true ∧ g.nextDeadline.get c ≤ s.now := by
  constructor
  · rintro ⟨t, h⟩
    obtain ⟨g', hg', he, -⟩ := (fireChannel_eq_next n c pulses body s t).mp h
    cases hg.symm.trans hg'
    exact (g.fireEnabled_iff c s.now).mp he
  · rintro ⟨harmed, hdue⟩
    rw [fireChannel_of_due hg harmed hdue]
    exact commitGptm_isNext ..

theorem fireChannel_of_not_due (h : ¬ (g.armed.get c = true ∧ g.nextDeadline.get c ≤ s.now)) :
    fireChannel n c pulses body s = .refused .fireNotEnabled := by
  rw [fireChannel, withGptm_some hg, if_neg (mt (g.fireEnabled_iff c s.now).mp h)]

end FireChannel

/-! ## Runs of fires of channel A and advances -/

/-- Every enabled fire of channel A of timer block `n`, under the parameters `p` and the scale `scale`, takes a block of which
`P` holds through `F` and changes nothing else but the ADC; and `P` goes on to hold. -/
structure FireLaw (n : Nat) (p : Params) (scale : Nat) (P : Gptm → Prop) (F : Gptm → Gptm) : Prop where
  fire : ∀ (s : State) (g : Gptm), s.params = p → s.ssys.systemClockScale = scale → s.gptm[n]? = some g → P g →
    g.nextDeadline.a ≤ s.now → ∃ a, exec (.gptmEvFireA n) s = .next { s with adc := a, gptm := s.gptm.set n (F g) }
  keep : ∀ g, P g → P (F g)

/-- A state on the way through such a run: timer block `n` is `g`, and no fault is recorded. -/
structure Running (n : Nat) (p : Params) (scale : Nat) (g : Gptm) (s : State) : Prop where
  faulted : s.faulted = none
  params : s.params = p
  scale : s.ssys.systemClockScale = scale
  block : s.gptm[n]? = some g

theorem perform_fireA (n : Nat) (k : Word) (s : State) :
    perform (.event 0x0000#15 n k) s = exec (.gptmEvFireA n) s :=
  perform_event (decode_eventWord .gptm 0x000#12 n k) rfl nofun

theorem eq_event_of_isFireA {n : Nat} {x : Stimulus} (h : isFireA n x = true) : ∃ k, x = .event 0x0000#15 n k := by
  unfold isFireA at h
  split at h
  · simp only [Bool.and_eq_true, decide_eq_true_eq] at h
    obtain ⟨rfl, rfl⟩ := h
    exact ⟨_, rfl⟩
  · cases h

theorem eq_advance_of_isAdvance {x : Stimulus} (h : isAdvance x = true) : ∃ u, x = .advance u := by
  unfold isAdvance at h
  split at h
  · exact ⟨_, rfl⟩
  · cases h

/-- A list of stimuli that runs runs its head and then its tail (20_memory.md R77). -/
theorem performAll_cons_eq_next {x : Stimulus} {xs : List Stimulus} {s t : State} :
    performAll (x :: xs) s = .next t ↔ s.faulted = none ∧ ∃ u, perform x s = .next u ∧ performAll xs u = .next t := by
  rw [performAll]
  cases s.faulted with
  | some c => simp
  | none => cases perform x s <;> simp

section FireRuns

variable {n : Nat} {p : Params} {scale : Nat} {P : Gptm → Prop} {F : Gptm → Gptm} (law : FireLaw n p scale P F)

include law

/-- A due fire takes the run on, at the same time. -/
theorem FireLaw.step {g : Gptm} {s : State} (hP : P g) (h : Running n p scale g s) (hdue : g.nextDeadline.a ≤ s.now) :
    ∃ t, exec (.gptmEvFireA n) s = .next t ∧ Running n p scale (F g) t ∧ t.now = s.now := by
  obtain ⟨a, ha⟩ := law.fire s g h.params h.scale h.block hP hdue
  refine ⟨_, ha, ⟨h.faulted, h.params, h.scale, ?_⟩, rfl⟩
  exact List.getElem?_set_self (List.getElem?_eq_some_iff.mp h.block).1

/-- After a run with `k` fires the timer block has gone `k` times through `F`. -/
theorem FireLaw.running_of_performAll (xs : List Stimulus) :
    ∀ {g : Gptm} {s t : State}, P g → Running n p scale g s → (∀ x ∈ xs, isFireA n x = true ∨ isAdvance x = true) →
      performAll xs s = .next t → Running n p scale (F^[xs.countP (isFireA n)] g) t := by
  induction xs with
  | nil => intro g s t _ h _ hrun; cases hrun; exact h
  | cons x xs ih =>
    intro g s t hP h hxs hrun
    obtain ⟨-, u, hu, hrest⟩ := performAll_cons_eq_next.mp hrun
    obtain ⟨hx, htail⟩ := List.forall_mem_cons.mp hxs
    obtain hx | hx := hx
    · obtain ⟨k, rfl⟩ := eq_event_of_isFireA hx
      rw [List.countP_cons_of_pos hx, Function.iterate_succ_apply]
      rw [perform_fireA] at hu
      obtain ⟨-, hdue⟩ := (fireChannel_isNext_iff (c := .a) h.block _ _).mp ⟨u, hu⟩
      obtain ⟨u', hu', hrunning, -⟩ := law.step hP h hdue
      cases hu.symm.trans hu'
      exact ih (law.keep g hP) hrunning htail hrest
    · obtain ⟨v, rfl⟩ := eq_advance_of_isAdvance hx
      rw [List.countP_cons_of_neg (by simp [isFireA])]
      obtain ⟨-, -, rfl⟩ := (advanceTo_eq_next v s u).mp hu
      exact ih (s := { s with now := v }) hP ⟨h.faulted, h.params, h.scale, h.block⟩ htail hrest

/-- Fires in a row all complete while each finds its deadline reached. -/
theorem FireLaw.performAll_replicate (w : Word) (k : Nat) :
    ∀ {g : Gptm} {s : State}, P g → Running n p scale g s → (∀ j < k, (F^[j] g).nextDeadline.a ≤ s.now) →
      ∃ t, performAll (List.replicate k (fireStimulus n .a w)) s = .next t := by
  induction k with
  | zero => exact fun _ _ _ => ⟨_, rfl⟩
  | succ k ih =>
    intro g s hP h hdue
    obtain ⟨u, hu, hrunning, hnow⟩ := law.step hP h (hdue 0 (Nat.succ_pos k))
    obtain ⟨t, ht⟩ := ih (law.keep g hP) hrunning fun j hj => hnow ▸ hdue (j + 1) (Nat.succ_lt_succ hj)
    exact ⟨t, performAll_cons_eq_next.mpr ⟨h.faulted, u, (perform_fireA n w s).trans hu, ht⟩⟩

end FireRuns

/-! ### A periodic countdown -/

/-- A periodic timer block after one fire (40_gptm.md R152). -/
def Gptm.periodicFired (scale : Nat) (g : Gptm) : Gptm :=
  { g with
    rawStatus := setTimeout g.rawStatus
    nextDeadline := g.nextDeadline.set .a
      (g.nextDeadline.a + (g.load.a.toNat + g.load.b.toNat * 2 ^ 16) * scale) }

/-- The timer block is a periodic countdown with channel A armed. -/
def Gptm.IsPeriodic (g : Gptm) : Prop := g.config = 0#32 ∧ g.mode.a.getLsbD 0 = false ∧ g.armed.a = true

theorem fireLaw_periodic (n : Nat) (p : Params) (scale : Nat) :
    FireLaw n p scale Gptm.IsPeriodic (Gptm.periodicFired scale) where
  fire := by
    rintro s g rfl rfl hg ⟨hcfg, hmode, harmed⟩ hdue
    exact ⟨_, (wordRuns_fireA_of_countdown (k := 0#32) hg harmed hdue hcfg
      (Gptm.fireBodyA_of_periodic hcfg harmed hmode ..)).2⟩
  keep := fun _ h => h

/-- After `k` fires the deadline has moved by `k` periods. -/
theorem Gptm.iterate_periodicFired (scale : Nat) (g : Gptm) (k : Nat) :
    (Gptm.periodicFired scale)^[k] g =
      { g with
        rawStatus := if k = 0 then g.rawStatus else g.rawStatus ||| 0x1#32
        nextDeadline :=
          ⟨g.nextDeadline.a + k * ((g.load.a.toNat + g.load.b.toNat * 2 ^ 16) * scale), g.nextDeadline.b⟩ } := by
  induction k with
  | zero => simp
  | succ k ih =>
    have hraw : setTimeout (if k = 0 then g.rawStatus else g.rawStatus ||| 0x1#32) = g.rawStatus ||| 0x1#32 := by
      split
      · rfl
      · exact (BitVec.or_assoc ..).trans (congrArg _ BitVec.or_self)
    rw [Function.iterate_succ_apply', ih]
    simp only [Gptm.periodicFired, hraw, if_neg (Nat.succ_ne_zero k), Pair.set, Nat.succ_mul, Nat.add_assoc]

/-! ### The RTC -/

/-- An RTC timer block after one tick (40_gptm.md R153). -/
def Gptm.rtcFired (p : Params) (g : Gptm) : Gptm :=
  { g.rtcCounted p with nextDeadline := g.nextDeadline.set .a (g.nextDeadline.a + p.ticksPerSecond) }

/-- The timer block is in RTC mode with channel A armed. -/
def Gptm.IsRtc (g : Gptm) : Prop := g.config = 1#32 ∧ g.armed.a = true

theorem fireLaw_rtc (n : Nat) (p : Params) (scale : Nat) : FireLaw n p scale Gptm.IsRtc (Gptm.rtcFired p) where
  fire := by
    rintro s g rfl rfl hg ⟨hcfg, harmed⟩ hdue
    exact ⟨_, (wordRuns_fireA_of_ok (k := 0#32) hg harmed hdue (by rw [hcfg]; decide)
      (Gptm.fireBodyA_of_rtc hcfg harmed ..)).2⟩
  keep := fun _ h => h

/-- One more tick of a counter that counts modulo `m + 1`. -/
theorem add_one_mod_succ (k m : Nat) : (k + 1) % (m + 1) = if k % (m + 1) = m then 0 else k % (m + 1) + 1 := by
  rw [← Nat.mod_add_mod, ring_succ (Nat.mod_lt k (Nat.succ_pos m))]
  simp only [Nat.succ_inj]

/-- One tick of a counter at `k mod (m + 1)` under the match `m`, which sets the status bit where it wraps. -/
theorem Gptm.rtcCounted_of_counter {p : Params} {g : Gptm} {m k : Nat}
    (hmatch : g.matchReg.a.toNat + g.matchReg.b.toNat * 2 ^ 16 = m) (hm : m < 2 ^ 32 - 1)
    (hq : p.quirks.rtcZeroStatus = false) (hc : g.rtcCounter = BitVec.ofNat 32 (k % (m + 1))) :
    g.rtcCounted p =
      { g with
        rtcCounter := BitVec.ofNat 32 ((k + 1) % (m + 1))
        rawStatus := if k % (m + 1) = m then setRtcMatch g.rawStatus else g.rawStatus } := by
  have hlt : k % (m + 1) < m + 1 := Nat.mod_lt k (Nat.succ_pos m)
  have hcount : g.rtcCounter + 1#32 = BitVec.ofNat 32 (k % (m + 1) + 1) := by rw [hc, ← BitVec.ofNat_add]
  have htoNat : (BitVec.ofNat 32 (k % (m + 1) + 1)).toNat = k % (m + 1) + 1 := by
    rw [BitVec.toNat_ofNat, Nat.mod_eq_of_lt (by omega)]
  have hpassed : k % (m + 1) + 1 > m ↔ k % (m + 1) = m := by omega
  simp only [Gptm.rtcCounted, hmatch, hcount, htoNat, hpassed, hq, add_one_mod_succ, Bool.false_and, Bool.or_false,
    decide_eq_true_eq]
  split <;> rfl

theorem Gptm.rtcFired_of_counter {p : Params} {g : Gptm} {m k : Nat}
    (hmatch : g.matchReg.a.toNat + g.matchReg.b.toNat * 2 ^ 16 = m) (hm : m < 2 ^ 32 - 1)
    (hq : p.quirks.rtcZeroStatus = false) (hc : g.rtcCounter = BitVec.ofNat 32 (k % (m + 1))) :
    g.rtcFired p =
      { g with
        rtcCounter := BitVec.ofNat 32 ((k + 1) % (m + 1))
        rawStatus := if k % (m + 1) = m then setRtcMatch g.rawStatus else g.rawStatus
        nextDeadline := g.nextDeadline.set .a (g.nextDeadline.a + p.ticksPerSecond) } := by
  rw [Gptm.rtcFired, Gptm.rtcCounted_of_counter hmatch hm hq hc]

/-- After `k` ticks from 0 the counter is `k mod (m + 1)`, and the status bit is set once `k` has reached `m + 1`. -/
theorem Gptm.iterate_rtcFired {p : Params} {g : Gptm} {m : Nat}
    (hmatch : g.matchReg.a.toNat + g.matchReg.b.toNat * 2 ^ 16 = m) (hm : m < 2 ^ 32 - 1)
    (hq : p.quirks.rtcZeroStatus = false) (hc : g.rtcCounter = 0#32) (k : Nat) :
    (Gptm.rtcFired p)^[k] g =
      { g with
        rtcCounter := BitVec.ofNat 32 (k % (m + 1))
        rawStatus := if k < m + 1 then g.rawStatus else g.rawStatus ||| 0x8#32
        nextDeadline := ⟨g.nextDeadline.a + k * p.ticksPerSecond, g.nextDeadline.b⟩ } := by
  induction k with
  | zero => simp [← hc]
  | succ k ih =>
    rw [Function.iterate_succ_apply', ih]
    have hraw :
        (if k % (m + 1) = m then setRtcMatch (if k < m + 1 then g.rawStatus else g.rawStatus ||| 0x8#32)
          else if k < m + 1 then g.rawStatus else g.rawStatus ||| 0x8#32) =
          if k + 1 < m + 1 then g.rawStatus else g.rawStatus ||| 0x8#32 := by
      have hset : setRtcMatch (g.rawStatus ||| 0x8#32) = g.rawStatus ||| 0x8#32 :=
        (BitVec.or_assoc ..).trans (congrArg _ BitVec.or_self)
      by_cases hk : k < m + 1
      · rw [Nat.mod_eq_of_lt hk]
        by_cases hkm : k = m
        · rw [if_pos hkm, if_pos hk, if_neg (by omega)]; rfl
        · rw [if_neg hkm, if_pos hk, if_pos (by omega)]
      · rw [if_neg hk, hset, ite_self, if_neg (by omega)]
    refine (Gptm.rtcFired_of_counter (m := m) (k := k) (by exact hmatch) hm hq (by rfl)).trans ?_
    simp only [hraw, Pair.set, Nat.succ_mul, Nat.add_assoc]

/-! ## The prescale registers (10_state.md R31) -/

/-- The timer block with other prescale and match-prescale values. -/
def Gptm.rescaled (x y : Pair Word) (g : Gptm) : Gptm := { g with prescale := x, matchPrescale := y }

/-- The same of the timer block of a run. -/
def GptmRun.rescaled (x y : Pair Word) (r : GptmRun) : GptmRun := { r with gptm := r.gptm.rescaled x y }

section Rescaled

variable (x y : Pair Word) (p : Params) (scale : Nat) (g : Gptm)

theorem Gptm.reload_rescaled (c : Channel) (base : Nat) :
    (g.rescaled x y).reload p scale c base = (g.reload p scale c base).rescaled x y := by
  simp only [Gptm.reload, apply_ite (GptmRun.rescaled x y)]
  rfl

theorem Gptm.enableChange_rescaled (now : Nat) (c : Channel) (old new : Bool) :
    Gptm.enableChange p scale now c old new (g.rescaled x y) =
      (Gptm.enableChange p scale now c old new g).rescaled x y := by
  simp only [Gptm.enableChange, apply_ite (GptmRun.rescaled x y), Gptm.reload_rescaled]
  rfl

theorem GptmRun.andThen_rescaled (r : GptmRun) {f : Gptm → GptmRun}
    (hf : ∀ g, f (g.rescaled x y) = (f g).rescaled x y) :
    (r.rescaled x y).andThen f = (r.andThen f).rescaled x y := by
  obtain ⟨g, fault⟩ := r
  cases fault with
  | none => exact hf g
  | some c => rfl

theorem Gptm.writeControl_rescaled (now : Nat) (v : Word) :
    (g.rescaled x y).writeControl p scale now v = (g.writeControl p scale now v).rescaled x y := by
  have hA := Gptm.enableChange_rescaled x y p scale { g with control := v } now .a (taen g.control) (taen v)
  unfold Gptm.writeControl
  refine (congrArg (GptmRun.andThen · _) hA).trans (GptmRun.andThen_rescaled x y _ fun g1 => ?_)
  simp only [apply_ite (GptmRun.rescaled x y), Gptm.enableChange_rescaled]
  rfl

theorem Gptm.modeFire_rescaled (c : Channel) : (g.rescaled x y).modeFire p c = (g.modeFire p c).rescaled x y := by
  simp only [Gptm.modeFire, apply_ite (GptmRun.rescaled x y)]
  rfl

theorem Gptm.countdownFire_rescaled :
    (g.rescaled x y).countdownFire p scale = (g.countdownFire p scale).rescaled x y := by
  have hr := Gptm.reload_rescaled x y p scale { g with rawStatus := setTimeout g.rawStatus } .a g.nextDeadline.a
  simp only [Gptm.countdownFire, apply_ite (GptmRun.rescaled x y), ← hr]
  rfl

theorem Gptm.rtcTick_rescaled : (g.rescaled x y).rtcTick p scale = (g.rtcTick p scale).rescaled x y := by
  simp only [Gptm.rtcTick, ← Gptm.reload_rescaled]
  rfl

theorem Gptm.fireBodyA_rescaled : (g.rescaled x y).fireBodyA p scale = (g.fireBodyA p scale).rescaled x y := by
  simp only [Gptm.fireBodyA, apply_ite (GptmRun.rescaled x y), ← Gptm.countdownFire_rescaled, ← Gptm.rtcTick_rescaled,
    ← Gptm.modeFire_rescaled]
  rfl

theorem Gptm.fireBodyB_rescaled : (g.rescaled x y).fireBodyB p = (g.fireBodyB p).rescaled x y := by
  simp only [Gptm.fireBodyB, apply_ite (GptmRun.rescaled x y), ← Gptm.modeFire_rescaled]
  rfl

end Rescaled

/-- A run that commits the same but for the prescale values, from a state that differs in those alone. -/
theorem commitGptm_rescaled {n : Nat} {r : GptmRun} {s t : State} {h : Gptm} (x y : Pair Word) (g : Gptm)
    (hn : n < s.gptm.length) (ht : commitGptm n r s = .next t) (hh : t.gptm[n]? = some h) :
    commitGptm n (r.rescaled x y) { s with gptm := s.gptm.set n g } =
      .next { t with gptm := t.gptm.set n (h.rescaled x y) } := by
  have hblock (u : State) (hu : u.gptm = s.gptm.set n r.gptm) (hun : u.gptm[n]? = some h) : r.gptm = h := by
    rw [hu, List.getElem?_set_self hn] at hun
    exact Option.some.inj hun
  obtain ⟨hf, rfl⟩ | ⟨c, hf, rfl⟩ := (commitGptm_eq_next n r s t).mp ht
  · cases hblock _ rfl hh
    refine (commitGptm_eq_next ..).mpr (.inl ⟨hf, ?_⟩)
    simp only [State.setGptm, List.set_set, GptmRun.rescaled]
  · cases hblock _ rfl hh
    refine (commitGptm_eq_next ..).mpr (.inr ⟨c, hf, ?_⟩)
    simp only [State.setGptm, List.set_set, GptmRun.rescaled]

/-- A fire that does not look at the prescale values, from a state that differs in those alone. -/
theorem fireChannel_rescaled {n : Nat} {c : Channel} {pulses : Gptm → Bool} {body : Gptm → GptmRun} {s t : State}
    {g h : Gptm} (x y : Pair Word) (hpulses : ∀ g, pulses (g.rescaled x y) = pulses g)
    (hbody : ∀ g, body (g.rescaled x y) = (body g).rescaled x y) (hg : s.gptm[n]? = some g)
    (ht : fireChannel n c pulses body s = .next t) (hh : t.gptm[n]? = some h) :
    fireChannel n c pulses body { s with gptm := s.gptm.set n (g.rescaled x y) } =
      .next { t with gptm := t.gptm.set n (h.rescaled x y) } := by
  obtain ⟨g', hg', henabled, hcommit⟩ := (fireChannel_eq_next ..).mp ht
  cases hg.symm.trans hg'
  have hn : n < s.gptm.length := (List.getElem?_eq_some_iff.mp hg).1
  refine (fireChannel_eq_next ..).mpr ⟨g.rescaled x y, List.getElem?_set_self hn, henabled, ?_⟩
  rw [hpulses, show (g.rescaled x y).disarm c = (g.disarm c).rescaled x y from rfl, hbody]
  cases hp : pulses g with
  | true =>
    rw [hp, if_pos rfl] at hcommit
    exact commitGptm_rescaled x y (g.rescaled x y) (s := { s with adc := pulseAdc s.params n s.adc }) hn hcommit hh
  | false =>
    rw [hp, if_neg Bool.false_ne_true] at hcommit
    exact commitGptm_rescaled x y (g.rescaled x y) hn hcommit hh

end Sys2Proof.Machine
end

section
/-! The statements about timer values, CTL writes under the quirk flag, fires and the prescale registers. -/

namespace Sys2Proof.Proofs

open Sys2Proof.Machine

/-- Settles O11: a TAR read is the counter or a fault as the mode (under the quirk flag, the control register) says. -/
theorem gptmTimerValueReadsAndReadOnlyWrites : Obligations.GptmTimerValueReadsAndReadOnlyWrites := by
  intro s n v g hg
  refine ⟨fun h => ?_, fun h => ?_, ?_, ?_, ?_, ?_, ?_⟩
  · refine wordRuns_of_access .gptm .read 0x048#12 rfl ?_
    rw [execGptmRTar_eq hg, if_pos]
    · rfl
    obtain ⟨hq, h⟩ | ⟨hq, h⟩ := h <;> simpa [hq] using h
  · refine wordRuns_of_accessFault .gptm .read 0x048#12 rfl ?_
    rw [execGptmRTar_eq hg, if_neg]
    obtain ⟨hq, h⟩ | ⟨hq, h⟩ := h <;> simpa [hq] using h
  · exact wordRuns_of_faultGptm hg .read 0x04C#12 rfl rfl
  · exact wordRuns_of_faultGptm hg .write 0x01C#12 rfl rfl
  · exact wordRuns_of_faultGptm hg .write 0x020#12 rfl rfl
  · exact wordRuns_of_faultGptm hg .write 0x048#12 rfl rfl
  · exact wordRuns_of_faultGptm hg .write 0x04C#12 rfl rfl

/-- Settles O15: both enable bits in turn, by what a 0-to-1 change of each does in its mode. -/
theorem pwmQuirkArmsAtNow : Obligations.PwmQuirkArmsAtNow := by
  intro s n v g hg hq rises falls wait afterA afterB
  have hA (h : rises 0 = true →
      Gptm.reload s.params s.ssys.systemClockScale { g with control := v } .a s.now =
        (({ g with control := v } : Gptm).arm .a (s.now + wait)).ok) :
      Gptm.enableChange s.params s.ssys.systemClockScale s.now .a (taen g.control) (taen v) { g with control := v } =
        afterA.ok :=
    Gptm.enableChange_of_arms h
  have hAmode (hcfg : 2#32 ≤ g.config) (hmode : rises 0 = true → g.mode.a = s.params.pwmSentinel) :
      Gptm.enableChange s.params s.ssys.systemClockScale s.now .a (taen g.control) (taen v) { g with control := v } =
        afterA.ok := by
    have hwait : wait = 0 := (if_neg (config_ne_zero hcfg)).trans (if_neg (config_ne_one hcfg))
    refine hA fun h => ?_
    rw [hwait]
    exact Gptm.reload_of_pwmQuirk (g := { g with control := v }) (c := .a) hcfg hq (hmode h) ..
  refine ⟨fun hcfg => ?_, fun hcfg hrise hmode => ?_, fun hcfg hmode => ⟨fun hlt => ?_, fun hge hrise hmodeB => ?_,
    fun hge hmodeB => ?_⟩⟩
  · have hlt : g.config < 4#32 := by obtain h | h := hcfg <;> rw [h] <;> decide
    refine wordRuns_ctl_of_ok hg (Gptm.writeControl_of_combined (hA fun _ => ?_) hlt)
    obtain hcfg | hcfg := hcfg
    · rw [show wait = _ from if_pos hcfg]
      exact Gptm.reload_of_countdown (g := { g with control := v }) hcfg ..
    · rw [show wait = _ from (if_neg (by rw [hcfg]; decide)).trans (if_pos hcfg)]
      exact Gptm.reload_of_rtc (g := { g with control := v }) hcfg ..
  · exact wordRuns_ctl_of_raise hg (Gptm.writeControl_of_raise
      (Gptm.enableChange_of_badMode { g with control := v } .a hcfg hrise hmode ..))
  · exact wordRuns_ctl_of_ok hg (Gptm.writeControl_of_combined (hAmode hcfg hmode) hlt)
  · exact wordRuns_ctl_of_raise hg ((Gptm.writeControl_of_split (hAmode hcfg hmode) hge).trans
      (Gptm.enableChange_of_badMode afterA .b hcfg hrise hmodeB ..))
  · refine wordRuns_ctl_of_ok hg ((Gptm.writeControl_of_split (hAmode hcfg hmode) hge).trans ?_)
    exact Gptm.enableChange_of_arms (t := s.now) fun h =>
      Gptm.reload_of_pwmQuirk (g := afterA) (c := .b) hcfg hq (hmodeB h) ..

/-- Settles O19. -/
theorem fireEnabledExactlyWhenDue : Obligations.FireEnabledExactlyWhenDue := fun _ _ _ hg =>
  ⟨fireChannel_isNext_iff (c := .a) hg _ _, fireChannel_isNext_iff (c := .b) hg _ _,
    fireChannel_of_not_due (c := .a) hg _ _, fireChannel_of_not_due (c := .b) hg _ _⟩

/-- Settles O20, by induction over the list of stimuli. -/
theorem periodicCountdownKeepsPhase : Obligations.PeriodicCountdownKeepsPhase := by
  intro s n g hf hg hcfg hmode harmed period
  have law := fireLaw_periodic n s.params s.ssys.systemClockScale
  have hP : g.IsPeriodic := ⟨hcfg, hmode, harmed⟩
  have hrun : Running n s.params s.ssys.systemClockScale g s := ⟨hf, rfl, rfl, hg⟩
  refine ⟨fun xs t hxs ht => ?_, fun k w hdue => law.performAll_replicate w k hP hrun fun j hj => ?_⟩
  · have hend := law.running_of_performAll xs hP hrun hxs ht
    rw [Gptm.iterate_periodicFired] at hend
    exact ⟨hend.block, hend.faulted⟩
  · rw [Gptm.iterate_periodicFired]
    exact (Nat.add_le_add_left (Nat.mul_le_mul_right _ (Nat.le_sub_one_of_lt hj)) _).trans (hdue (Nat.ne_zero_of_lt hj))

/-- Settles O21, by induction over the list of stimuli. -/
theorem rtcCounterAfterManyTicks : Obligations.RtcCounterAfterManyTicks := by
  intro s n g hf hg hcfg harmed hc hq m hm
  have law := fireLaw_rtc n s.params s.ssys.systemClockScale
  have hP : g.IsRtc := ⟨hcfg, harmed⟩
  have hrun : Running n s.params s.ssys.systemClockScale g s := ⟨hf, rfl, rfl, hg⟩
  refine ⟨fun xs t hxs ht => ?_, fun k w hdue => law.performAll_replicate w k hP hrun fun j hj => ?_⟩
  · have hend := law.running_of_performAll xs hP hrun hxs ht
    rw [Gptm.iterate_rtcFired rfl hm hq hc] at hend
    exact ⟨hend.block, hend.faulted⟩
  · rw [Gptm.iterate_rtcFired rfl hm hq hc]
    exact (Nat.add_le_add_left (Nat.mul_le_mul_right _ (Nat.le_sub_one_of_lt hj)) _).trans (hdue (Nat.ne_zero_of_lt hj))

/-- Settles O22. -/
theorem prescaleHasNoEffect : Obligations.PrescaleHasNoEffect := by
  rintro s t n v g h x y i (rfl | rfl | rfl) hg ht hh
  · have hn : n < s.gptm.length := (List.getElem?_eq_some_iff.mp hg).1
    rw [execGptmWCtl_eq hg] at ht
    rw [execGptmWCtl_eq (List.getElem?_set_self hn)]
    refine (congrArg (commitGptm n · _) (Gptm.writeControl_rescaled x y ..)).trans ?_
    exact commitGptm_rescaled x y (g.rescaled x y) hn ht hh
  · exact fireChannel_rescaled x y (fun _ => rfl) (Gptm.fireBodyA_rescaled x y _ _) hg ht hh
  · exact fireChannel_rescaled x y (fun _ => rfl) (Gptm.fireBodyB_rescaled x y _) hg ht hh

end Sys2Proof.Proofs
end

section
/-! SUPPORT. The clock scale on numbers, the resets, and saving and restoring. -/

namespace Sys2Proof.Machine

/-! ## The clock scale and the board class -/

theorem divisorField_le_of_rcc {r c : Word} (h : c.getLsbD 31 = false) : divisorField r c ≤ 15 := by
  rw [divisorField, if_neg (show ¬ usercc2 c = true from Bool.eq_false_iff.mp h)]
  exact Nat.le_of_lt_succ (sysdiv r).isLt

theorem divisorField_le_of_rcc2 {r c : Word} (h : c.getLsbD 31 = true) : divisorField r c ≤ 63 := by
  rw [divisorField, if_pos (show usercc2 c = true from h)]
  exact Nat.le_of_lt_succ (sysdiv2 c).isLt

theorem didVersion_eq_iff (d : Word) (k : Nat) (hk : k < 8) : didVersion d = BitVec.ofNat 3 k ↔ d.toNat / 2 ^ 28 % 8 = k := by
  rw [← BitVec.toNat_inj, didVersion, BitVec.extractLsb'_toNat, Nat.shiftRight_eq_div_pow, BitVec.toNat_ofNat,
    Nat.mod_eq_of_lt hk]

theorem didClass_eq_iff (d : Word) (k : Nat) (hk : k < 256) : didClass d = BitVec.ofNat 8 k ↔ d.toNat / 2 ^ 16 % 256 = k := by
  rw [← BitVec.toNat_inj, didClass, BitVec.extractLsb'_toNat, Nat.shiftRight_eq_div_pow, BitVec.toNat_ofNat,
    Nat.mod_eq_of_lt hk]

/-- The lookup of the board class on the numbers of the two fields (41_ssys.md R182). -/
theorem boardClass_eq (d : Word) :
    boardClass d =
      if d.toNat / 2 ^ 28 % 8 = 0 then some .sandstorm
      else if d.toNat / 2 ^ 28 % 8 = 1 then
        if d.toNat / 2 ^ 16 % 256 = 0 then some .sandstorm
        else if d.toNat / 2 ^ 16 % 256 = 1 then some .fury
        else none
      else none := by
  simp only [boardClass, didVersion_eq_iff d 0 (by decide), didVersion_eq_iff d 1 (by decide),
    didClass_eq_iff d 0 (by decide), didClass_eq_iff d 1 (by decide)]

/-- The reset values of RCC and RCC2 give the divisor 16 on either board class (70_reset_and_hazards.md R352). -/
theorem clockScale_reset (p : Params) (c : BoardClass) :
    clockScale p Config.rccReset c.rcc2Reset = p.scaleMult * 16 := by
  have h : divisorField Config.rccReset c.rcc2Reset = 15 := by cases c <;> decide
  rw [clockScale, h]

/-! ## The RCC2 write (41_ssys.md R204) -/

theorem execSsysWRcc2_of_stored {s : State}
    (h : s.params.rcc2IgnoredOnSandstorm = false ∨ boardClass s.ssys.board.did0 = some .fury) (v : Word) :
    exec (.ssysWRcc2 v) s = writeSsys (fun y => { y with rcc2 := v }) s := by
  change execSsysWRcc2 v s = _
  cases hi : s.params.rcc2IgnoredOnSandstorm with
  | false => rw [execSsysWRcc2, hi, if_neg Bool.false_ne_true]
  | true => rw [execSsysWRcc2, hi, if_pos rfl, h.resolve_left (by simp [hi])]

theorem execSsysWRcc2_of_ignored {s : State} (hi : s.params.rcc2IgnoredOnSandstorm = true)
    (h : boardClass s.ssys.board.did0 = some .sandstorm) (v : Word) :
    exec (.ssysWRcc2 v) s = writeSsys (fun y => y) s := by
  change execSsysWRcc2 v s = _
  rw [execSsysWRcc2, hi, if_pos rfl, h]

theorem execSsysWRcc2_of_noClass {s : State} (hi : s.params.rcc2IgnoredOnSandstorm = true)
    (h : boardClass s.ssys.board.did0 = none) (v : Word) :
    exec (.ssysWRcc2 v) s = takeFault .ssysBoardClass s := by
  change execSsysWRcc2 v s = _
  rw [execSsysWRcc2, hi, if_pos rfl, h]

/-! ## Event words, resets and restores -/

theorem wordRuns_of_event {n : Nat} {k : Word} {i : Instr} {s t : State} (b : Block) (code : BitVec 12)
    (hd : decodeEvent b code n k = some i) (hx : exec i s = .next t) : WordRuns (eventWord b code) n k i s t :=
  ⟨by rw [decode_eventWord, hd], hx⟩

theorem Ssys.resetRegs_isSome {y : Ssys} (h : boardClass y.board.did0 ≠ none) (p : Params) :
    ∃ y', y.resetRegs p = some y' := by
  obtain ⟨c, hc⟩ := Option.ne_none_iff_exists'.mp h
  exact ⟨_, Ssys.resetRegs_some hc p⟩

theorem resetSsys_of_some {s : State} {y : Ssys} (h : s.ssys.resetRegs s.params = some y) :
    resetSsys s = .next { s with ssys := y } := by
  rw [resetSsys, h]

theorem resetAll_of_some {s : State} {y : Ssys} (h : s.ssys.resetRegs s.params = some y) :
    resetAll s =
      .next
        { s with
          ssys := y
          gptm := s.gptm.map fun _ => Gptm.reset
          i2c := (I2cSide.mk s.i2c s.bus).resetSide.regs
          bus := (I2cSide.mk s.i2c s.bus).resetSide.bus
          adc := Adc.reset } := by
  rw [resetAll, h]

theorem resetAll_of_none {s : State} (h : s.ssys.resetRegs s.params = none) :
    resetAll s = takeFault .ssysBoardClass s := by
  rw [resetAll, h]

theorem withSnapshot_some {α : Type} {l : List α} {k : Word} {x : α} (h : l[k.toNat]? = some x) (f : α → Result) :
    withSnapshot l k f = f x := by
  rw [withSnapshot, h]

/-- The snapshot that a save appends is the one its number finds. -/
theorem getElem?_append_self {α : Type} {l : List α} (h : l.length < 2 ^ 32) (x : α) :
    (l ++ [x])[(BitVec.ofNat 32 l.length).toNat]? = some x := by
  rw [BitVec.toNat_ofNat, Nat.mod_eq_of_lt h, List.getElem?_concat_length]

/-- A save and then an event that changes nothing after it. -/
theorem performAll_save_event {b : Block} {n : Nat} {e : BitVec 15} {w : Word} {i : Instr} {s : State} {saved : Saved}
    (hf : s.faulted = none) (hfree : s.hostBlocked = false) (hsave : saveBlock b n s = .next { s with saved := saved })
    (hd : decode ⟨1#1 ++ e, n, w⟩ = .ok i) (hr : isBlockReset i = false) (ht : i ≠ .adcEvTrigger)
    (hx : exec i { s with saved := saved } = .next { s with saved := saved }) :
    performAll [.save b n, .event e n w] s = .next { s with saved := saved } :=
  performAll_cons_eq_next.mpr ⟨hf, _, (hostStep_of_free hfree _).trans hsave,
    performAll_cons_eq_next.mpr ⟨hf, _, (perform_event hd hr ht).trans hx, rfl⟩⟩

/-- An SSYS write that changes no register changes nothing, the scale being the one the registers give. -/
theorem writeSsys_of_unchanged {f : Ssys → Ssys} {s : State} (hf : f s.ssys = s.ssys) (h : s.ssys.Inv s.params) :
    writeSsys f s = .next s := by
  rw [writeSsys, hf, Ssys.recompute, ← h.scale]

/-! ## The invariant of the reset states (70_reset_and_hazards.md R351 to R354) -/

theorem Gptm.inv_reset (p : Params) : Gptm.reset.Inv p :=
  ⟨BitVec.zero_and, BitVec.zero_and, fun _ => rfl⟩

theorem I2c.inv_reset (p : Params) : I2c.reset.Inv p :=
  ⟨BitVec.zero_and, BitVec.zero_and, .inl rfl, BitVec.zero_and⟩

/-- The empty FIFO's word is legal whatever the capacity. -/
theorem FifoLegal.reset {p : Params} (hp : Params.Inv p) : FifoLegal p 0x100#32 :=
  ⟨by decide, hp.capPos, hp.capPos, fun _ => by decide, fun h => absurd rfl h⟩

theorem Adc.inv_reset {p : Params} (hp : Params.Inv p) : Adc.reset.Inv p where
  raw := BitVec.zero_and
  overflow := BitVec.zero_and
  underflow := BitVec.zero_and
  mux := fun n => by
    rw [show Adc.reset.mux[n] = 0#32 from Vector.getElem_replicate n.isLt]
    exact BitVec.zero_and
  ctl := fun n => .inl (Vector.getElem_replicate n.isLt)
  fifo := fun _ n => by
    rw [show Adc.reset.fifo[n] = Fifo.reset from Vector.getElem_replicate n.isLt]
    exact FifoLegal.reset hp

end Sys2Proof.Machine
end

section
/-! The statements about the clock scale, the resets, and saving and restoring. -/

namespace Sys2Proof.Proofs

open Sys2Proof.Machine

/-- Settles O25, by the widths of the two divisor fields. -/
theorem clockScaleRange : Obligations.ClockScaleRange := fun p _ _ =>
  ⟨Nat.dvd_mul_right .., Nat.le_mul_of_pos_right _ (Nat.succ_pos _),
    fun h => Nat.mul_le_mul_left p.scaleMult (Nat.succ_le_succ (divisorField_le_of_rcc h)),
    fun h => Nat.mul_le_mul_left p.scaleMult (Nat.succ_le_succ (divisorField_le_of_rcc2 h))⟩

/-- Settles O26. -/
theorem boardClassLookup : Obligations.BoardClassLookup := by
  intro d ver cls
  rw [boardClass_eq]
  refine ⟨fun hv => if_pos hv, fun hv hc => ?_, fun hv hc => ?_, fun hv hc => ?_, fun hv => ?_⟩
  · rw [if_neg (by omega), if_pos hv, if_pos hc]
  · rw [if_neg (by omega), if_pos hv, if_neg (by omega), if_pos hc]
  · rw [if_neg (by omega), if_pos hv, if_neg (by omega), if_neg (by omega)]
  · rw [if_neg (by omega), if_neg (by omega)]

/-- Settles O32, by the three outcomes of the write. -/
theorem rccTwoWrite : Obligations.RccTwoWrite := by
  intro s n v
  refine ⟨fun h => ?_, fun hi h => ?_, fun hi h => ?_⟩
  · exact wordRuns_of_writeSsys 0x070#12 _ rfl (execSsysWRcc2_of_stored h v) rfl
  · exact wordRuns_of_writeSsys 0x070#12 _ rfl (execSsysWRcc2_of_ignored hi h v) rfl
  · exact wordRuns_of_accessFault .ssys .write 0x070#12 rfl (execSsysWRcc2_of_noClass hi h v)

/-- Settles O47: each reset is an event of its block. -/
theorem blockResets : Obligations.BlockResets := by
  intro s n v
  refine ⟨fun hn => ?_, fun c hc => ?_, fun hc => ?_, ?_, ?_⟩
  · exact wordRuns_of_event .gptm 0xFFF#12 rfl ((resetGptm_eq_next ..).mpr ⟨hn, rfl⟩)
  · refine wordRuns_of_event .ssys 0xFFF#12 rfl ((resetSsys_of_some (Ssys.resetRegs_some hc _)).trans ?_)
    rw [Ssys.recompute, clockScale_reset]
    cases c <;> rfl
  · exact wordRuns_of_event .ssys 0xFFF#12 rfl ((resetSsys_eq_next ..).mpr (.inr ⟨Ssys.resetRegs_none hc _, rfl⟩))
  · refine wordRuns_of_event .i2c 0xFFF#12 rfl ?_
    rfl
  · exact wordRuns_of_event .adc 0xFFF#12 rfl rfl

/-- Settles O48. -/
theorem resetAllRunsTheResetsInOrder : Obligations.ResetAllRunsTheResetsInOrder := by
  intro s hfree
  have hrun : perform .resetAll s = resetAll s := hostStep_of_free hfree _
  refine ⟨fun hc => ?_, fun hc => ?_⟩
  · rw [hrun, resetAll_of_none (Ssys.resetRegs_none hc _)]; rfl
  · obtain ⟨y, hy⟩ := Ssys.resetRegs_isSome hc s.params
    refine ⟨_, _, _, _, resetSsys_of_some hy, rfl, rfl, rfl, ?_⟩
    rw [hrun, resetAll_of_some hy, List.map_const']

/-- Settles O49. -/
theorem blockRestores : Obligations.BlockRestores := by
  intro s n k
  refine ⟨fun g hn hk => ?_, fun y hk => ?_, fun x hk => ?_, fun a hk => ?_, fun hn hk => ?_, fun hk => ?_, fun hk => ?_,
    fun hk => ?_⟩
  · exact wordRuns_of_event .gptm 0xFFE#12 rfl ((restoreGptm_eq_next ..).mpr ⟨hn, g, hk, rfl⟩)
  · exact wordRuns_of_event .ssys 0xFFE#12 rfl (withSnapshot_some hk _)
  · exact wordRuns_of_event .i2c 0xFFE#12 rfl (withSnapshot_some hk _)
  · exact wordRuns_of_event .adc 0xFFE#12 rfl (withSnapshot_some hk _)
  · exact (withGptm_some (List.getElem?_eq_getElem hn) _).trans (withSnapshot_none hk _)
  · exact withSnapshot_none hk _
  · exact withSnapshot_none hk _
  · exact withSnapshot_none hk _

/-- Settles O54. -/
theorem invariantHoldsAtReset : Obligations.InvariantHoldsAtReset :=
  have hp : Params.Inv Params.default := ⟨by decide, by decide⟩
  { params := hp
    gptm := fun g hg => (List.eq_of_mem_replicate hg) ▸ Gptm.inv_reset _
    ssys := ⟨by decide, rfl, by decide⟩
    i2c := I2c.inv_reset _
    adc := Adc.inv_reset hp
    savedGptm := nofun
    savedSsys := nofun
    savedI2c := nofun
    savedAdc := nofun }

/-- Settles O50: the restore finds the snapshot that the save appended. -/
theorem saveThenRestoreChangesNothing : Obligations.SaveThenRestoreChangesNothing := by
  intro s b n hf hfree hinv hb hg hy hx ha
  cases b with
  | gptm =>
    have hn : n < s.gptm.length := of_decide_eq_true hb
    refine ⟨_, performAll_save_event hf hfree (withGptm_some (List.getElem?_eq_getElem hn) _)
      (decode_eventWord .gptm 0xFFE#12 n _) rfl nofun
      ((restoreGptm_eq_next ..).mpr ⟨hn, s.gptm[n], getElem?_append_self hg _, ?_⟩)⟩
    rw [State.setGptm, List.set_getElem_self]
  | ssys =>
    refine ⟨_, performAll_save_event hf hfree rfl (decode_eventWord .ssys 0xFFE#12 n _) rfl nofun
      ((withSnapshot_some (getElem?_append_self hy _) _).trans (writeSsys_of_unchanged rfl hinv))⟩
  | i2c =>
    exact ⟨_, performAll_save_event hf hfree rfl (decode_eventWord .i2c 0xFFE#12 n _) rfl nofun
      (withSnapshot_some (getElem?_append_self hx _) _)⟩
  | adc =>
    exact ⟨_, performAll_save_event hf hfree rfl (decode_eventWord .adc 0xFFE#12 n _) rfl nofun
      (withSnapshot_some (getElem?_append_self ha _) _)⟩

end Sys2Proof.Proofs
end

section
/-! SUPPORT. What an access can do, by its block and direction, and what no stimulus touches. -/

namespace Sys2Proof.Machine

/-- What an access at offset `off` of block `b` can make of `s`: the effects that are those of an access, each with the block
and direction it needs. -/
inductive AccessEffect (s : State) (d : Dir) (b : Block) (off : Nat) : State → Prop
  | fault (c : FaultCode) : AccessEffect s d b off { s with faulted := some c }
  | read (x : Word) (hd : d = .read) : AccessEffect s d b off { s with readData := x }
  | fifoRead (q : Fin 4) (hb : b = .adc) (hd : d = .read) (hoff : off ∈ [0x048, 0x068, 0x088, 0x0A8]) :
      AccessEffect s d b off { s with adc := s.adc.fifoRead s.params q, readData := s.adc.fifoValue q }
  | timer (n : Nat) (g g' : Gptm) (hb : b = .gptm) (hd : d = .write) (hg : s.gptm[n]? = some g)
      (harmed : g'.armed = g.armed) (hdeadline : g'.nextDeadline = g.nextDeadline) :
      AccessEffect s d b off (s.setGptm n g')
  | control (t : State) (hb : b = .gptm) (hd : d = .write) (hoff : off = 0x00C) : AccessEffect s d b off t
  | ssys (y : Ssys) (hb : b = .ssys) (hd : d = .write) :
      AccessEffect s d b off { s with ssys := y.recompute s.params }
  | i2c (x : I2c) (bus : I2cBus) (hb : b = .i2c) (hd : d = .write) : AccessEffect s d b off { s with i2c := x, bus := bus }
  | adc (a : Adc) (hb : b = .adc) (hd : d = .write) : AccessEffect s d b off { s with adc := a }

/-- The effects of an operation that is an access; those of the events are none of them. -/
theorem Effect.access {i : Instr} {s t : State} {d : Dir} {b : Block} {o : BitVec 12} (hacc : IsAccessOf b d o i)
    (h : Effect i s t) : AccessEffect s d b o.toNat t := by
  cases h with
  | fault c => exact .fault c
  | read x hi =>
    obtain ⟨b', o', hi⟩ := hi
    obtain ⟨-, rfl, -⟩ := hacc.unique hi
    exact .read x rfl
  | fifoRead q o' hoff hi =>
    obtain ⟨rfl, rfl, rfl⟩ := hacc.unique hi
    exact .fifoRead q rfl rfl hoff
  | gptmStore n g g' o' hi hg hstore =>
    obtain ⟨rfl, rfl, rfl⟩ := hacc.unique hi
    exact .timer n g g' rfl rfl hg hstore.armed hstore.nextDeadline
  | gptmRun n g g' a f hi =>
    obtain hi | ⟨code, hi⟩ := hi
    · obtain ⟨rfl, rfl, rfl⟩ := hacc.unique hi
      exact .control _ rfl rfl rfl
    · exact absurd hi hacc.not_event
  | gptmReplace n g' hi =>
    have : ∃ code, IsEventOf .gptm code i := by
      obtain rfl | ⟨k, rfl⟩ := hi
      exacts [⟨0xFFF#12, rfl, rfl⟩, ⟨0xFFE#12, rfl, rfl⟩]
    exact absurd this.choose_spec hacc.not_event
  | ssysStore y o' hi =>
    obtain ⟨rfl, rfl, rfl⟩ := hacc.unique hi
    exact .ssys y rfl rfl
  | ssysReplace y hi =>
    have : ∃ code, IsEventOf .ssys code i := by
      obtain rfl | ⟨k, rfl⟩ := hi
      exacts [⟨0xFFF#12, rfl, rfl⟩, ⟨0xFFE#12, rfl, rfl⟩]
    exact absurd this.choose_spec hacc.not_event
  | i2cStore x o' hi =>
    obtain ⟨rfl, rfl, rfl⟩ := hacc.unique hi
    exact .i2c x s.bus rfl rfl
  | command v hi =>
    obtain ⟨rfl, rfl, rfl⟩ := hacc.unique (show IsAccessOf .i2c .write 0x004#12 i from hi ▸ ⟨rfl, rfl⟩)
    exact .i2c _ _ rfl rfl
  | i2cReset hi => exact absurd (show IsEventOf .i2c 0xFFF#12 i from hi ▸ ⟨rfl, rfl⟩) hacc.not_event
  | i2cRestore x k hi => exact absurd (show IsEventOf .i2c 0xFFE#12 i from hi ▸ ⟨rfl, rfl⟩) hacc.not_event
  | adcStore a o' hi =>
    obtain ⟨rfl, rfl, rfl⟩ := hacc.unique hi
    exact .adc a rfl rfl
  | trigger hi => exact absurd (show IsEventOf .adc 0x000#12 i from hi ▸ ⟨rfl, rfl⟩) hacc.not_event
  | adcReplace a hi =>
    have : ∃ code, IsEventOf .adc code i := by
      obtain rfl | ⟨k, rfl⟩ := hi
      exacts [⟨0xFFF#12, rfl, rfl⟩, ⟨0xFFE#12, rfl, rfl⟩]
    exact absurd this.choose_spec hacc.not_event

theorem perform_access_effect {s t : State} {d : Dir} {b : Block} {n off size : Nat} {v : Word}
    (h : perform (.access d b n off size v) s = .next t) : AccessEffect s d b off t := by
  cases perform_effect h with
  | fault => exact .fault _
  | access hoff h =>
    have hacc := h.access (decodeAccess_isAccessOf b d (BitVec.ofNat 12 off) n v)
    rwa [BitVec.toNat_ofNat, Nat.mod_eq_of_lt hoff] at hacc

/-- What no stimulus but an advance changes. -/
structure SameFrame (s t : State) : Prop where
  params : t.params = s.params
  board : t.ssys.board = s.ssys.board
  length : t.gptm.length = s.gptm.length
  now : t.now = s.now

theorem Effect.sameFrame {i : Instr} {s t : State} (h : Effect i s t) : SameFrame s t := by
  cases h with
  | gptmStore | gptmRun | gptmReplace => exact ⟨rfl, rfl, List.length_set, rfl⟩
  | ssysStore y off hi hstore => exact ⟨rfl, hstore.board, rfl, rfl⟩
  | ssysReplace y hi hboard => exact ⟨rfl, hboard, rfl, rfl⟩
  | fault | read | fifoRead | i2cStore | command | i2cReset | i2cRestore | adcStore | trigger | adcReplace =>
    exact ⟨rfl, rfl, rfl, rfl⟩

theorem StepEffect.sameFrame {x : Stimulus} {s t : State} (h : StepEffect s x t) (hx : ∀ u, x ≠ .advance u) :
    SameFrame s t := by
  cases h with
  | access _ h => exact h.sameFrame
  | event _ h => exact h.sameFrame
  | advance u => exact absurd rfl (hx u)
  | resetAll y hboard => exact ⟨rfl, hboard, List.length_map _, rfl⟩
  | fault | resetFault | save | busTaken | busLetGo | answerAcquire | answerRecv => exact ⟨rfl, rfl, rfl, rfl⟩

end Sys2Proof.Machine
end

section
/-! The statements about every access and every step that are case analyses of what it can do. -/

namespace Sys2Proof.Proofs

open Sys2Proof.Machine

/-- Settles O57: of the effects of an access only a fault, a read and the pop of an SSFIFOn are those of a read. -/
theorem readsArePure : Obligations.ReadsArePure := by
  intro s t b n off size v h hfifo
  cases perform_access_effect h with
  | fault c => exact .inr ⟨c, rfl⟩
  | read x => exact .inl rfl
  | fifoRead q hb _ hoff => exact absurd hoff (hfifo hb)
  | timer _ _ _ _ hd | control _ _ hd | ssys _ _ hd | i2c _ _ _ hd | adc _ _ hd => cases hd

/-- Settles O59: an access of SSYS has no effect but on SSYS, and its writes end in the recomputation of the scale. -/
theorem scaleChangesReachOnlyLaterReloads : Obligations.ScaleChangesReachOnlyLaterReloads := by
  intro s t d n off size v h
  cases perform_access_effect h with
  | fault c => exact ⟨rfl, rfl, rfl, fun _ hsame hnone => nomatch hsame.trans hnone⟩
  | read x hd => exact ⟨rfl, rfl, rfl, fun hw => nomatch hd.symm.trans hw⟩
  | ssys y => exact ⟨rfl, rfl, rfl, fun _ _ _ => rfl⟩
  | fifoRead _ hb | timer _ _ _ hb | control _ hb | i2c _ _ hb | adc _ hb => cases hb

/-- Settles O23: a register write other than CTL's keeps the channels of its timer block. -/
theorem onlyCtlAccessesTouchDeadlines : Obligations.OnlyCtlAccessesTouchDeadlines := by
  intro s t d b n off size m v h hctl
  cases perform_access_effect h with
  | timer k g g' _ _ hg harmed hdeadline =>
    simp only [State.setGptm, List.getElem?_set]
    split
    case isTrue hk =>
      subst hk
      rw [hg, if_pos (List.getElem?_eq_some_iff.mp hg).1, Option.map_some, Option.map_some, harmed, hdeadline]
    case isFalse => rfl
  | control _ hb hd hoff => exact absurd hoff (hctl hb hd)
  | fault | read | fifoRead | ssys | i2c | adc => rfl

/-- Settles O58. -/
theorem timeParametersAndBoardAreKept : Obligations.TimeParametersAndBoardAreKept := by
  intro s t x ⟨_, h⟩
  by_cases hx : ∃ u, x = .advance u
  · obtain ⟨u, rfl⟩ := hx
    obtain ⟨hu, -, rfl⟩ := (advanceTo_eq_next u s t).mp h
    exact ⟨rfl, rfl, rfl, hu, fun hx => absurd rfl (hx u)⟩
  · obtain ⟨hparams, hboard, hlength, hnow⟩ := (perform_effect h).sameFrame fun u hu => hx ⟨u, hu⟩
    exact ⟨hparams, hboard, hlength, hnow.ge, fun _ => hnow⟩

end Sys2Proof.Proofs
end

section
/-! SUPPORT. The MCS command (42_i2c.md R241) in its four outcomes: the START that loses arbitration, the START that takes the
bus, the command on a bus that is not held, and the command on a held bus. -/

namespace Sys2Proof.Machine

/-! ## The START part -/

/-- The master after a START whose acquire failed, with the bus that the acquire left, and ERROR set as nothing is held. -/
def I2cSide.lost (x : I2cSide) (bus : I2cBus) : I2cSide :=
  { regs := { x.regs with controlStatus := x.regs.controlStatus ||| 0x12#32 }, bus := bus }

/-- The master after a START that took the bus. -/
def I2cSide.taken (x : I2cSide) : I2cSide :=
  { regs := { x.regs with controlStatus := (x.regs.controlStatus &&& ~~~0x10#32) ||| 0x40#32 }
    bus :=
      { x.bus with
        holder := .self
        nextAcquire := none
        draws := x.bus.draws + 1
        calls :=
          x.bus.calls ++ [.acquire (slaveAddressField x.regs.slaveAddress) (slaveIsRead x.regs.slaveAddress) true] } }

section Command

variable {x : I2cSide} {v : Word}

theorem I2cSide.start_of_idle (h : v.getLsbD 1 = false ∨ x.regs.controlStatus.getLsbD 6 = true) : x.start v = x := by
  have hc : (cmdStart v && !busbsy x.regs.controlStatus) = false := by
    obtain h | h := h <;> simp only [cmdStart, busbsy, bit, h, Bool.false_and, Bool.not_true, Bool.and_false]
  rw [I2cSide.start, hc, if_neg Bool.false_ne_true]

/-- A START while BUSBSY is clear is an acquire. -/
theorem I2cSide.start_of_acquire (hstart : v.getLsbD 1 = true) (hidle : x.regs.controlStatus.getLsbD 6 = false)
    {r : AcquireRun} (hr : x.bus.acquire (slaveAddressField x.regs.slaveAddress) (slaveIsRead x.regs.slaveAddress) = r) :
    x.start v =
      if r.ok then
        { regs := { x.regs with controlStatus := setBusbsy (setArblst x.regs.controlStatus false) true }, bus := r.bus }
      else { regs := { x.regs with controlStatus := setArblst x.regs.controlStatus true }, bus := r.bus } := by
  have hc : (cmdStart v && !busbsy x.regs.controlStatus) = true := by
    simp only [cmdStart, busbsy, bit, hstart, hidle, Bool.not_false, Bool.and_true]
  rw [I2cSide.start, hc, if_pos rfl, ← hr]

theorem I2cSide.start_of_taken (hstart : v.getLsbD 1 = true) (hidle : x.regs.controlStatus.getLsbD 6 = false)
    (hother : x.bus.holder ≠ .other) (hdraw : x.bus.drawAcquire = true) : x.start v = x.taken := by
  rw [I2cSide.start_of_acquire hstart hidle (I2cBus.acquire_of_not_other hother ..), hdraw]
  rfl

/-! ## The four outcomes -/

theorem I2cSide.command_of_lost (hmfe : x.regs.masterConfig.getLsbD 4 = true) (hstart : v.getLsbD 1 = true)
    (hidle : x.regs.controlStatus.getLsbD 6 = false) {bus : I2cBus}
    (hr : x.bus.acquire (slaveAddressField x.regs.slaveAddress) (slaveIsRead x.regs.slaveAddress) = ⟨false, bus⟩) :
    x.command v = x.lost bus := by
  have hs := I2cSide.start_of_acquire hstart hidle hr
  rw [if_neg Bool.false_ne_true] at hs
  have hbusy : busbsy (setArblst x.regs.controlStatus true) = false := by simpa [busbsy, bit, setArblst, setBit] using hidle
  have hheld : (x.start v).held = false := by simp [hs, I2cSide.held, hbusy]
  rw [I2cSide.command_enabled hmfe, hheld, if_neg Bool.false_ne_true, hs, I2cSide.lost]
  exact congrArg (fun w => I2cSide.mk { x.regs with controlStatus := w } bus) (BitVec.or_assoc ..)

/-- A START that takes the bus leaves the same command from there, with BUSBSY set. -/
theorem I2cSide.command_of_taken (hmfe : x.regs.masterConfig.getLsbD 4 = true) (hstart : v.getLsbD 1 = true)
    (hidle : x.regs.controlStatus.getLsbD 6 = false) (hother : x.bus.holder ≠ .other) (hdraw : x.bus.drawAcquire = true) :
    x.command v = x.taken.command v := by
  have hbusy : x.taken.regs.controlStatus.getLsbD 6 = true := by simp [I2cSide.taken]
  have hmfe' : x.taken.regs.masterConfig.getLsbD 4 = true := hmfe
  rw [I2cSide.command_enabled hmfe, I2cSide.command_enabled hmfe', I2cSide.start_of_taken hstart hidle hother hdraw,
    I2cSide.start_of_idle (.inr hbusy)]

theorem I2cSide.command_of_not_held (hmfe : x.regs.masterConfig.getLsbD 4 = true)
    (hstart : v.getLsbD 1 = false ∨ x.regs.controlStatus.getLsbD 6 = true)
    (hheld : x.bus.holder = .none ∨ x.regs.controlStatus.getLsbD 6 = false) :
    x.command v = { x with regs := { x.regs with controlStatus := x.regs.controlStatus ||| 0x2#32 } } := by
  have hheld : x.held = false := by
    obtain h | h := hheld
    · simp [I2cSide.held, I2cBus.isBusy, h]
    · exact (congrArg (x.bus.isBusy && ·) h).trans (Bool.and_false _)
  rw [I2cSide.command_enabled hmfe, I2cSide.start_of_idle hstart, hheld, if_neg Bool.false_ne_true]
  rfl

/-- The master after a command on a held bus: ERROR cleared, one byte moved by RUN, the bus released by STOP. -/
def I2cSide.served (x : I2cSide) (v : Word) : I2cSide :=
  let run := v.getLsbD 0
  let stop := v.getLsbD 2
  let isRead := x.regs.slaveAddress.getLsbD 0
  { regs :=
      { x.regs with
        controlStatus := x.regs.controlStatus &&& (if stop then ~~~0x42#32 else ~~~0x2#32)
        dataRegister := if run && isRead then x.bus.drawRecv else x.regs.dataRegister
        rawInterruptStatus := if run then x.regs.rawInterruptStatus ||| 0x1#32 else x.regs.rawInterruptStatus }
    bus :=
      { x.bus with
        holder := if stop && decide (x.bus.holder = .self) then .none else x.bus.holder
        nextRecv := if run && isRead then none else x.bus.nextRecv
        draws := if run && isRead then x.bus.draws + 1 else x.bus.draws
        calls :=
          x.bus.calls ++
            (if run then [if isRead then .recvByte x.bus.drawRecv else .sendByte x.regs.dataRegister] else []) ++
            (if stop then [.release] else []) } }

/-- The RUN part in its three cases. -/
theorem I2cSide.run_eq (x : I2cSide) (v : Word) :
    x.run v =
      { regs :=
          { x.regs with
            dataRegister := if v.getLsbD 0 && x.regs.slaveAddress.getLsbD 0 then x.bus.drawRecv else x.regs.dataRegister
            rawInterruptStatus :=
              if v.getLsbD 0 then x.regs.rawInterruptStatus ||| 0x1#32 else x.regs.rawInterruptStatus }
        bus :=
          { x.bus with
            nextRecv := if v.getLsbD 0 && x.regs.slaveAddress.getLsbD 0 then none else x.bus.nextRecv
            draws := if v.getLsbD 0 && x.regs.slaveAddress.getLsbD 0 then x.bus.draws + 1 else x.bus.draws
            calls :=
              x.bus.calls ++
                (if v.getLsbD 0 then
                  [if x.regs.slaveAddress.getLsbD 0 then .recvByte x.bus.drawRecv else .sendByte x.regs.dataRegister]
                else []) } } := by
  unfold I2cSide.run cmdRun slaveIsRead bit
  cases v.getLsbD 0 with
  | false => simp
  | true => cases x.regs.slaveAddress.getLsbD 0 <;> rfl

/-- The STOP part in its two cases. -/
theorem I2cSide.stop_eq (x : I2cSide) (v : Word) :
    x.stop v =
      { regs :=
          { x.regs with
            controlStatus := if v.getLsbD 2 then x.regs.controlStatus &&& ~~~0x40#32 else x.regs.controlStatus }
        bus :=
          { x.bus with
            holder := if v.getLsbD 2 && decide (x.bus.holder = .self) then .none else x.bus.holder
            calls := x.bus.calls ++ (if v.getLsbD 2 then [.release] else []) } } := by
  unfold I2cSide.stop cmdStop bit
  cases v.getLsbD 2 with
  | false => simp
  | true => simp [I2cBus.release, setBusbsy, setBit]

theorem I2cSide.command_of_held (hmfe : x.regs.masterConfig.getLsbD 4 = true)
    (hbusy : x.regs.controlStatus.getLsbD 6 = true) (hheld : x.bus.holder ≠ .none) : x.command v = x.served v := by
  have hh : x.held = true := by simp [I2cSide.held, I2cBus.isBusy, busbsy, bit, hbusy, hheld]
  have hstatus : (if v.getLsbD 2 then setError x.regs.controlStatus false &&& ~~~0x40#32
        else setError x.regs.controlStatus false) =
      x.regs.controlStatus &&& (if v.getLsbD 2 then ~~~0x42#32 else ~~~0x2#32) := by
    cases v.getLsbD 2
    · rfl
    · exact BitVec.and_assoc ..
  rw [I2cSide.command_enabled hmfe, I2cSide.start_of_idle (.inr hbusy), hh, if_pos rfl, I2cSide.stop_eq, I2cSide.run_eq]
  simp only [hstatus, I2cSide.served]

section Combined

variable (hrun : v.getLsbD 0 = true) (hstop : v.getLsbD 2 = true) (hself : x.bus.holder = .self)

include hrun hstop hself

theorem I2cSide.served_of_send (hsend : x.regs.slaveAddress.getLsbD 0 = false) :
    x.served v =
      { regs :=
          { x.regs with
            controlStatus := x.regs.controlStatus &&& ~~~0x42#32
            rawInterruptStatus := x.regs.rawInterruptStatus ||| 0x1#32 }
        bus :=
          { x.bus with
            holder := .none
            calls := x.bus.calls ++ [.sendByte x.regs.dataRegister] ++ [.release] } } := by
  simp only [I2cSide.served, hrun, hstop, hself, hsend, Bool.and_false, Bool.and_self, decide_true, if_true, if_false,
    Bool.false_eq_true]

theorem I2cSide.served_of_recv (hrecv : x.regs.slaveAddress.getLsbD 0 = true) :
    x.served v =
      { regs :=
          { x.regs with
            controlStatus := x.regs.controlStatus &&& ~~~0x42#32
            dataRegister := x.bus.drawRecv
            rawInterruptStatus := x.regs.rawInterruptStatus ||| 0x1#32 }
        bus :=
          { x.bus with
            holder := .none
            nextRecv := none
            draws := x.bus.draws + 1
            calls := x.bus.calls ++ [.recvByte x.bus.drawRecv] ++ [.release] } } := by
  simp only [I2cSide.served, hrun, hstop, hself, hrecv, Bool.and_self, decide_true, if_true]

end Combined

end Command

theorem I2cBus.drawRecv_of_fixed {b : I2cBus} {y : Byte} (h : b.nextRecv = some y) : b.drawRecv = y := by
  rw [I2cBus.drawRecv, h]

/-! ## The MCS word -/

theorem execI2cWMcs_eq {s : State} {v : Word} {x : I2cSide} (hx : (I2cSide.mk s.i2c s.bus).command v = x) :
    exec (.i2cWMcs v) s = .next { s with i2c := x.regs, bus := x.bus } := by
  rw [← hx]; rfl

theorem wordRuns_mcs {s t : State} {n : Nat} {v : Word} {x : I2cSide} (hx : (I2cSide.mk s.i2c s.bus).command v = x)
    (ht : { s with i2c := x.regs, bus := x.bus } = t) : WordRuns 0x5004#16 n v (.i2cWMcs v) s t :=
  wordRuns_of_access .i2c .write 0x004#12 rfl ((execI2cWMcs_eq hx).trans (congrArg _ ht))

end Sys2Proof.Machine
end

section
/-! The statements about the MCS command. -/

namespace Sys2Proof.Proofs

open Sys2Proof.Machine

/-- Settles O36, by the outcomes of the command. -/
theorem mcsCommand : Obligations.McsCommand := by
  intro s n v cs a isRead run stop
  refine ⟨fun hmfe => ?_, fun hmfe hstart hidle hother => ?_, fun hmfe hstart hidle hother hdraw => ?_,
    fun hmfe hstart hidle hother hdraw => ?_, fun hmfe hstart hheld => ?_, fun hmfe hbusy hheld => ?_⟩
  · exact wordRuns_mcs (I2cSide.command_disabled (x := ⟨s.i2c, s.bus⟩) hmfe v) rfl
  · exact wordRuns_mcs (I2cSide.command_of_lost (x := ⟨s.i2c, s.bus⟩) hmfe hstart hidle
      (I2cBus.acquire_of_other hother ..)) rfl
  · have hr := I2cBus.acquire_of_not_other hother a isRead
    rw [hdraw] at hr
    exact wordRuns_mcs (I2cSide.command_of_lost (x := ⟨s.i2c, s.bus⟩) hmfe hstart hidle hr) rfl
  · exact execI2cWMcs_eq (I2cSide.command_of_taken (x := ⟨s.i2c, s.bus⟩) hmfe hstart hidle hother hdraw)
  · exact wordRuns_mcs (I2cSide.command_of_not_held (x := ⟨s.i2c, s.bus⟩) hmfe hstart hheld) rfl
  · exact wordRuns_mcs (I2cSide.command_of_held (x := ⟨s.i2c, s.bus⟩) hmfe hbusy hheld) rfl

/-- Settles O37: the START takes the bus, and the rest is a command on the held bus. -/
theorem combinedTransfer : Obligations.CombinedTransfer := by
  intro s v hmfe hidle hfree hdraw hv address
  have hbit (k : Nat) (hk : k < 3) : v.getLsbD k = true := by
    have h := congrArg (·.getLsbD k) hv
    simp only [BitVec.getLsbD_extractLsb', hk, decide_true, Bool.true_and, Nat.zero_add] at h
    rw [h]
    interval_cases k <;> rfl
  have hstatus : ((s.i2c.controlStatus &&& ~~~0x10#32) ||| 0x40#32) &&& ~~~0x42#32 = s.i2c.controlStatus &&& ~~~0x52#32 := by
    rw [BitVec.and_or_distrib_right, BitVec.and_assoc]
    exact BitVec.or_zero
  have hcommand : (I2cSide.mk s.i2c s.bus).command v = (I2cSide.mk s.i2c s.bus).taken.served v := by
    rw [I2cSide.command_of_taken (x := ⟨s.i2c, s.bus⟩) hmfe (hbit 1 (by decide)) hidle (by rw [hfree]; decide) hdraw]
    exact I2cSide.command_of_held (x := (I2cSide.mk s.i2c s.bus).taken) hmfe (by simp [I2cSide.taken])
      (by simp [I2cSide.taken])
  have hexec := execI2cWMcs_eq hcommand
  refine ⟨fun hsend => ?_, fun hrecv => ⟨(I2cSide.mk s.i2c s.bus).taken.bus.drawRecv,
    fun y hy => I2cBus.drawRecv_of_fixed (b := (I2cSide.mk s.i2c s.bus).taken.bus) hy, ?_⟩⟩
  · rw [hexec, I2cSide.served_of_send (hbit 0 (by decide)) (hbit 2 (by decide)) rfl hsend]
    simp only [I2cSide.taken, hstatus, slaveIsRead, hsend, List.append_assoc, List.cons_append, List.nil_append]
    rfl
  · rw [hexec, I2cSide.served_of_recv (hbit 0 (by decide)) (hbit 2 (by decide)) rfl hrecv]
    simp only [I2cSide.taken, hstatus, slaveIsRead, hrecv, List.append_assoc, List.cons_append, List.nil_append]
    rfl

end Sys2Proof.Proofs
end

section
/-! SUPPORT. The outcomes of an MCS command as one case analysis, and the code of an event from the operation it decodes to. -/

namespace Sys2Proof.Machine

/-- What an MCS command can make of the master and the bus (42_i2c.md R241). -/
inductive CommandOutcome (x : I2cSide) (v : Word) : I2cSide → Prop
  | disabled : CommandOutcome x v x
  | lost (bus : I2cBus) (hmfe : x.regs.masterConfig.getLsbD 4 = true) (hidle : x.regs.controlStatus.getLsbD 6 = false)
      (hbus : x.bus.acquire (slaveAddressField x.regs.slaveAddress) (slaveIsRead x.regs.slaveAddress) = ⟨false, bus⟩) :
      CommandOutcome x v (x.lost bus)
  | taken (hmfe : x.regs.masterConfig.getLsbD 4 = true) (hstart : v.getLsbD 1 = true)
      (hidle : x.regs.controlStatus.getLsbD 6 = false) (hother : x.bus.holder ≠ .other) :
      CommandOutcome x v (x.taken.served v)
  | notHeld (hmfe : x.regs.masterConfig.getLsbD 4 = true) :
      CommandOutcome x v { x with regs := { x.regs with controlStatus := x.regs.controlStatus ||| 0x2#32 } }
  | held (hmfe : x.regs.masterConfig.getLsbD 4 = true) (hbusy : x.regs.controlStatus.getLsbD 6 = true)
      (hheld : x.bus.holder ≠ .none) : CommandOutcome x v (x.served v)

theorem I2cSide.commandOutcome (x : I2cSide) (v : Word) : CommandOutcome x v (x.command v) := by
  cases hmfe : x.regs.masterConfig.getLsbD 4 with
  | false => rw [I2cSide.command_disabled hmfe]; exact .disabled
  | true =>
    cases hbusy : x.regs.controlStatus.getLsbD 6 with
    | true =>
      by_cases hfree : x.bus.holder = .none
      · rw [I2cSide.command_of_not_held hmfe (.inr hbusy) (.inl hfree)]; exact .notHeld hmfe
      · rw [I2cSide.command_of_held hmfe hbusy hfree]; exact .held hmfe hbusy hfree
    | false =>
      cases hstart : v.getLsbD 1 with
      | false => rw [I2cSide.command_of_not_held hmfe (.inl hstart) (.inr hbusy)]; exact .notHeld hmfe
      | true =>
        by_cases hother : x.bus.holder = .other
        · have hlost := I2cBus.acquire_of_other hother (slaveAddressField x.regs.slaveAddress)
            (slaveIsRead x.regs.slaveAddress)
          rw [I2cSide.command_of_lost hmfe hstart hbusy hlost]
          exact .lost _ hmfe hbusy hlost
        · cases hdraw : x.bus.drawAcquire with
          | true =>
            rw [I2cSide.command_of_taken hmfe hstart hbusy hother hdraw,
              I2cSide.command_of_held (x := x.taken) hmfe (by simp [I2cSide.taken]) (by simp [I2cSide.taken])]
            exact .taken hmfe hstart hbusy hother
          | false =>
            have hlost := I2cBus.acquire_of_not_other hother (slaveAddressField x.regs.slaveAddress)
              (slaveIsRead x.regs.slaveAddress)
            rw [hdraw] at hlost
            rw [I2cSide.command_of_lost hmfe hstart hbusy hlost]
            exact .lost _ hmfe hbusy hlost

/-! ## The code of an event -/

theorem event_eq_of_decode {e : BitVec 15} {n : Nat} {k : Word} {i : Instr} {b : Block} {code : BitVec 12}
    (hd : decode ⟨1#1 ++ e, n, k⟩ = .ok i) (hi : IsEventOf b code i) : e = (eventWord b code).extractLsb' 0 15 := by
  have hword : 1#1 ++ e = eventWord b code := (wellFormed_and_word_of_decode hd).2.symm.trans hi.2
  rw [← hword]
  exact (BitVec.extractLsb'_append_eq_right).symm

/-! ## A bus that another master holds -/

/-- The reset of a master that is not on the bus makes no call (70_reset_and_hazards.md R353). -/
theorem resetSide_bus_of_idle {s : State} (hidle : s.i2c.controlStatus.getLsbD 6 = false) :
    (I2cSide.mk s.i2c s.bus).resetSide.bus = s.bus :=
  if_neg (Bool.eq_false_iff.mp hidle)

/-- Another master holds the bus and BUSBSY is 0, and the calls made since `s` are acquires that failed. -/
structure HeldByOther (s t : State) : Prop where
  holder : t.bus.holder = .other
  idle : t.i2c.controlStatus.getLsbD 6 = false
  calls : ∃ l, t.bus.calls = s.bus.calls ++ l ∧ ∀ c ∈ l, ∃ a r, c = .acquire a r false

section

variable {s : State} (hother : s.bus.holder = .other) (hidle : s.i2c.controlStatus.getLsbD 6 = false)

include hother hidle

theorem HeldByOther.of_same {t : State} (hbus : t.bus = s.bus) (hi2c : t.i2c.controlStatus = s.i2c.controlStatus) :
    HeldByOther s t :=
  ⟨hbus ▸ hother, hi2c ▸ hidle, [], by rw [hbus, List.append_nil], nofun⟩

/-- A command sets ERROR, and ARBLST if it has START, whose acquire fails. -/
theorem HeldByOther.of_command {v : Word} {x : I2cSide} (h : CommandOutcome ⟨s.i2c, s.bus⟩ v x) :
    HeldByOther s { s with i2c := x.regs, bus := x.bus } := by
  cases h with
  | disabled => exact .of_same hother hidle rfl rfl
  | lost bus _ _ hbus =>
    rw [I2cBus.acquire_of_other hother] at hbus
    cases hbus
    exact ⟨hother, by simpa [I2cSide.lost] using hidle, _, rfl, fun c hc => ⟨_, _, List.mem_singleton.mp hc⟩⟩
  | taken _ _ _ h => exact absurd hother h
  | notHeld => exact ⟨hother, by simpa using hidle, [], (List.append_nil _).symm, nofun⟩
  | held _ hbusy => rw [hidle] at hbusy; cases hbusy

theorem HeldByOther.of_effect {i : Instr} {t : State} (hi : ∀ k, i ≠ .i2cEvRestore k) (h : Effect i s t) :
    HeldByOther s t := by
  cases h with
  | command v => exact .of_command hother hidle (I2cSide.commandOutcome _ v)
  | i2cStore x _ _ hx => exact .of_same hother hidle rfl hx.status
  | i2cReset =>
    rw [resetSide_bus_of_idle hidle]
    exact ⟨hother, BitVec.getLsbD_zero, [], (List.append_nil _).symm, nofun⟩
  | i2cRestore x k hk => exact absurd hk (hi k)
  | fault | read | fifoRead | gptmStore | gptmRun | gptmReplace | ssysStore | ssysReplace | adcStore | trigger
  | adcReplace =>
    exact .of_same hother hidle rfl rfl

end

end Sys2Proof.Machine
end

section
/-! The statement about a bus that another master holds. -/

namespace Sys2Proof.Proofs

open Sys2Proof.Machine

/-- Settles O38, by the effects of every stimulus. -/
theorem noTransferWhileAnotherMasterHolds : Obligations.NoTransferWhileAnotherMasterHolds := by
  intro s t x hother hidle hlet hrestore ⟨_, hx⟩
  have hheld : HeldByOther s t := by
    cases perform_effect hx with
    | access _ h =>
      refine .of_effect hother hidle (fun k hk => ?_) h
      have hacc := hk ▸ decodeAccess_isAccessOf ..
      exact hacc.not_event (b' := .i2c) (code := 0xFFE#12) ⟨rfl, rfl⟩
    | event hi h =>
      refine .of_effect hother hidle (fun k hk => ?_) h
      subst hk
      exact hrestore _ _ (congrArg (Stimulus.event · _ _) (event_eq_of_decode (b := .i2c) (code := 0xFFE#12) hi ⟨rfl, rfl⟩))
    | resetAll =>
      rw [resetSide_bus_of_idle hidle]
      exact ⟨hother, BitVec.getLsbD_zero, [], (List.append_nil _).symm, nofun⟩
    | busTaken h => rw [hother] at h; cases h
    | busLetGo => exact absurd rfl hlet
    | answerAcquire | answerRecv => exact ⟨hother, hidle, [], (List.append_nil _).symm, nofun⟩
    | fault | advance | resetFault | save => exact .of_same hother hidle rfl rfl
  exact ⟨hheld.holder, hheld.idle, hheld.calls⟩

end Sys2Proof.Proofs
end

section
/-! SUPPORT. Each block's part of the invariant through each effect of a step. -/

namespace Sys2Proof.Machine

theorem masked_and_not (v m : Word) : v &&& m &&& ~~~m = 0#32 := by
  rw [BitVec.and_assoc, BitVec.and_not_self]
  exact BitVec.and_zero

/-! ## GPTM -/

section Gptm

variable {p : Params} {g g' : Gptm}

theorem Gptm.Inv.store {i : Instr} {n : Nat} (h : g.Inv p) (hs : GptmStore p i n g g') : g'.Inv p where
  mask := by
    obtain hm | ⟨v, hm⟩ := hs.mask <;> rw [hm]
    · exact h.mask
    · exact masked_and_not v _
  status := by
    obtain hr | ⟨v, -, hr⟩ := hs.status <;> rw [hr]
    · exact h.status
    · exact w1c_and_eq_zero h.status v
  noB := fun hq => hs.armed ▸ h.noB hq

theorem Gptm.Inv.ran (h : g.Inv p) (hr : GptmRan p g g') : g'.Inv p :=
  ⟨hr.mask ▸ h.mask, hr.status h.status, fun hq => hr.noB hq (h.noB hq)⟩

end Gptm

/-! ## SSYS -/

/-- The value that a CLKCFG write stores has SEL_REQ in SEL_CUR (41_ssys.md R203). -/
theorem selCaptured_clkcfgValue (v : Word) : SelCaptured (clkcfgValue v) := by
  rw [SelCaptured, clkcfgValue_eq_append]
  ext k hk
  simp only [BitVec.getElem_extractLsb', BitVec.getLsbD_append]
  interval_cases k <;> rfl

theorem SsysStore.selCaptured {i : Instr} {y y' : Ssys} (h : SsysStore i y y') (hy : SelCaptured y.rccConfig) :
    SelCaptured y'.rccConfig := by
  obtain hc | ⟨v, hc⟩ := h.sel <;> rw [hc]
  · exact hy
  · exact selCaptured_clkcfgValue v

/-- After the recomputation the scale is the one the registers give. -/
theorem Ssys.Inv.recompute {p : Params} {y y' : Ssys} (h : y.Inv p) (hboard : y'.board = y.board)
    (hsel : SelCaptured y'.rccConfig) : (y'.recompute p).Inv p :=
  ⟨rfl, hsel, show boardClass y'.board.did0 ≠ none from hboard ▸ h.board⟩

/-! ## I2C -/

section I2c

variable {p : Params}

theorem I2c.Inv.store {i : Instr} {x x' : I2c} (h : x.Inv p) (hs : I2cStore p i x x') : x'.Inv p where
  status := hs.status ▸ h.status
  config := by
    obtain hc | ⟨v, hc⟩ := hs.config <;> rw [hc]
    · exact h.config
    · exact masked_and_not v 0x10#32
  mask := by
    obtain hm | hm := hs.mask
    · exact hm ▸ h.mask
    · exact .inr hm
  raw := by
    obtain hr | ⟨v, -, hr⟩ := hs.raw <;> rw [hr]
    · exact h.raw
    · exact w1c_and_eq_zero h.raw v

/-- Setting bits that a mask allows keeps a word within it. -/
theorem or_and_eq_zero {x c k : Word} (h : x &&& c = 0#32) (hk : k &&& c = 0#32) : (x ||| k) &&& c = 0#32 := by
  rw [BitVec.and_or_distrib_right, h, hk, BitVec.or_zero]

theorem I2c.Inv.served {x : I2cSide} (h : x.regs.Inv p) (v : Word) : (x.served v).regs.Inv p where
  status := and_and_eq_zero h.status _
  config := h.config
  mask := h.mask
  raw := by
    simp only [I2cSide.served]
    split
    · exact or_and_eq_zero h.raw (by decide)
    · exact h.raw

theorem I2c.Inv.taken {x : I2cSide} (h : x.regs.Inv p) : x.taken.regs.Inv p :=
  ⟨or_and_eq_zero (and_and_eq_zero h.status _) (by decide), h.config, h.mask, h.raw⟩

theorem I2c.Inv.outcome {x x' : I2cSide} {v : Word} (h : x.regs.Inv p) (ho : CommandOutcome x v x') : x'.regs.Inv p := by
  cases ho with
  | disabled => exact h
  | lost => exact ⟨or_and_eq_zero h.status (by decide), h.config, h.mask, h.raw⟩
  | taken => exact I2c.Inv.served (I2c.Inv.taken h) v
  | notHeld => exact ⟨or_and_eq_zero h.status (by decide), h.config, h.mask, h.raw⟩
  | held => exact I2c.Inv.served h v

end I2c

/-! ## ADC -/

section Adc

variable {p : Params} {a : Adc}

/-- A sequencer's bit is one of bits 0 to 3. -/
theorem setBit_sequencer_and_eq_zero {x : Word} (h : x &&& ~~~0xF#32 = 0#32) (q : Fin 4) :
    setBit x q true &&& ~~~0xF#32 = 0#32 :=
  setBit_and_eq_zero h (by revert q; decide) true

theorem Adc.Inv.store {i : Instr} {a' : Adc} (h : a.Inv p) (hs : AdcStore p i a a') : a'.Inv p where
  raw := by
    obtain hr | ⟨v, -, hr⟩ := hs.raw <;> rw [hr]
    · exact h.raw
    · exact w1c_and_eq_zero h.raw v
  overflow := by
    obtain hr | ⟨v, -, hr⟩ := hs.overflow <;> rw [hr]
    · exact h.overflow
    · exact w1c_and_eq_zero h.overflow v
  underflow := by
    obtain hr | ⟨v, -, hr⟩ := hs.underflow <;> rw [hr]
    · exact h.underflow
    · exact w1c_and_eq_zero h.underflow v
  mux := fun n => by
    obtain hm | ⟨q, v, hm⟩ := hs.mux <;> rw [hm]
    · exact h.mux n
    · simp only [Fin.getElem_fin, Vector.getElem_set]
      split
      · exact masked_and_not v _
      · exact h.mux n
  ctl := fun n => by
    obtain hc | ⟨q, hc⟩ := hs.ctl <;> rw [hc]
    · exact h.ctl n
    · simp only [Fin.getElem_fin, Vector.getElem_set]
      split
      · exact .inr rfl
      · exact h.ctl n
  fifo := hs.fifo ▸ h.fifo

/-- A FIFO whose new word is legal, in an ADC whose other FIFOs are. -/
theorem fifoLegal_set {v : Vector Fifo 4} (h : ∀ n : Fin 4, FifoLegal p v[n].state) {q : Fin 4} {f : Fifo}
    (hf : FifoLegal p f.state) (n : Fin 4) : FifoLegal p (v.set q f)[n].state := by
  simp only [Fin.getElem_fin, Vector.getElem_set]
  split
  · exact hf
  · exact h n

theorem Adc.Inv.fifoRead (hp : Params.Inv p) (h : a.Inv p) (q : Fin 4) : (a.fifoRead p q).Inv p := by
  cases he : fifoEmpty a.fifo[q].state with
  | true =>
    rw [Adc.fifoRead_of_empty he]
    exact { h with underflow := setBit_sequencer_and_eq_zero h.underflow q }
  | false =>
    rw [Adc.fifoRead_of_not_empty he]
    exact { h with fifo := fun hq => fifoLegal_set (h.fifo hq) ((h.fifo hq q).popWord hp.capPos hp.capMax hq he) }

theorem Adc.Inv.fifoWrite (hp : Params.Inv p) (h : a.Inv p) (q : Fin 4) (x : Word) : (a.fifoWrite p q x).Inv p := by
  cases hf : fifoFull a.fifo[q].state with
  | true =>
    rw [Adc.fifoWrite_of_full hf]
    exact { h with overflow := setBit_sequencer_and_eq_zero h.overflow q }
  | false =>
    rw [Adc.fifoWrite_of_not_full hf]
    exact { h with fifo := fun hq => fifoLegal_set (h.fifo hq) ((h.fifo hq q).pushWord hp.capPos hp.capMax hf) }

theorem Adc.Inv.sampleInto (hp : Params.Inv p) (h : a.Inv p) (q : Fin 4) : (a.sampleInto p q).Inv p := by
  cases ht : a.triggered p q with
  | false => rwa [Adc.sampleInto_of_not_triggered ht]
  | true =>
    rw [Adc.sampleInto_of_triggered ht]
    have hnoise : ({ a with noise := nextNoise p a.noise } : Adc).Inv p := { h with }
    exact { hnoise.fifoWrite hp q _ with raw := setBit_sequencer_and_eq_zero h.raw q }

theorem Adc.Inv.trigger (hp : Params.Inv p) (h : a.Inv p) : (a.trigger p).Inv p :=
  Adc.trigger_of_sampleInto (fun _ q ha => ha.sampleInto hp q) a h

end Adc

/-! ## The whole machine -/

theorem State.Inv.gptm_set {s : State} (h : s.Inv) (n : Nat) {g' : Gptm} (hg' : g'.Inv s.params) :
    ∀ g ∈ s.gptm.set n g', g.Inv s.params := by
  intro g hg
  obtain hg | rfl := List.mem_or_eq_of_mem_set hg
  · exact h.gptm g hg
  · exact hg'

theorem State.Inv.effect {i : Instr} {s t : State} (h : s.Inv) (he : Effect i s t) : t.Inv := by
  cases he with
  | fault | read => exact { h with }
  | fifoRead q => exact { h with adc := h.adc.fifoRead h.params q }
  | gptmStore n g g' _ _ hg hs =>
    exact { h with gptm := h.gptm_set n ((h.gptm g (List.mem_of_getElem? hg)).store hs) }
  | gptmRun n g g' a f _ hg hr ha =>
    have hadc : a.Inv s.params := by
      obtain rfl | rfl := ha
      · exact h.adc
      · exact pulseAdc_of_trigger (fun _ ha => Adc.Inv.trigger h.params ha) n s.adc h.adc
    exact { h with
      adc := hadc
      gptm := h.gptm_set n ((h.gptm g (List.mem_of_getElem? hg)).ran hr) }
  | gptmReplace n g' _ hg' =>
    have hinv : g'.Inv s.params := by
      obtain rfl | hg' := hg'
      · exact Gptm.inv_reset _
      · exact h.savedGptm g' hg'
    exact { h with gptm := h.gptm_set n hinv }
  | ssysStore y _ _ hs => exact { h with ssys := h.ssys.recompute hs.board (hs.selCaptured h.ssys.sel) }
  | ssysReplace y _ hboard hsel =>
    have hsel : SelCaptured y.rccConfig := by
      obtain hsel | ⟨z, hz, hsel⟩ := hsel <;> rw [hsel]
      · rfl
      · exact h.savedSsys z hz
    exact { h with ssys := h.ssys.recompute hboard hsel }
  | i2cStore x _ _ hs => exact { h with i2c := h.i2c.store hs }
  | command v => exact { h with i2c := I2c.Inv.outcome (x := ⟨s.i2c, s.bus⟩) h.i2c (I2cSide.commandOutcome _ v) }
  | i2cReset => exact { h with i2c := I2c.inv_reset _ }
  | i2cRestore x _ _ hx => exact { h with i2c := h.savedI2c x hx }
  | adcStore a _ _ hs => exact { h with adc := h.adc.store hs }
  | trigger => exact { h with adc := h.adc.trigger h.params }
  | adcReplace a _ ha =>
    have hinv : a.Inv s.params := by
      obtain rfl | ha := ha
      · exact Adc.inv_reset h.params
      · exact h.savedAdc a ha
    exact { h with adc := hinv }

theorem State.Inv.stepEffect {x : Stimulus} {s t : State} (h : s.Inv) (he : StepEffect s x t) : t.Inv := by
  cases he with
  | access _ he => exact h.effect he
  | event _ he => exact h.effect he
  | resetAll y hboard hsel =>
    exact { h with
      gptm := fun g hg => by
        obtain ⟨_, _, rfl⟩ := List.mem_map.mp hg
        exact Gptm.inv_reset _
      ssys := h.ssys.recompute hboard (hsel ▸ rfl)
      i2c := I2c.inv_reset _
      adc := Adc.inv_reset h.params }
  | save b n m hgptm hssys hi2c hadc =>
    exact { h with
      savedGptm := fun g hg => (hgptm g hg).elim (h.savedGptm g) (h.gptm g)
      savedSsys := fun y hy => (hssys y hy).elim (h.savedSsys y) fun hy => hy ▸ h.ssys.sel
      savedI2c := fun x hx => (hi2c x hx).elim (h.savedI2c x) fun hx => hx ▸ h.i2c
      savedAdc := fun a ha => (hadc a ha).elim (h.savedAdc a) fun ha => ha ▸ h.adc }
  | fault | advance | resetFault | busTaken | busLetGo | answerAcquire | answerRecv => exact { h with }

end Sys2Proof.Machine
end

section
/-! The statement about the invariant. -/

namespace Sys2Proof.Proofs

open Sys2Proof.Machine

/-- Settles O55: the step performs a stimulus, and the invariant goes through each of its effects. -/
theorem stepKeepsInvariant : Obligations.StepKeepsInvariant := by
  intro s t h hstep
  obtain ⟨-, x, rest, -, hx⟩ := (step_eq_next s t).mp hstep
  have hrest : State.Inv { s with pending := rest } := { h with }
  exact hrest.stepEffect (perform_effect hx)

end Sys2Proof.Proofs
end

section
/-! SUPPORT. Which effects let a status bit fall, and the stimulus that an operation stands for. -/

namespace Sys2Proof.Machine

/-! ## The stimulus of an operation -/

/-- The stimulus `x` is the access or the event that runs the operation `i`. -/
structure Runs (x : Stimulus) (i : Instr) : Prop where
  access : ∀ b d (o : BitVec 12), IsAccessOf b d o i →
    ∃ n v, x = .access d b n o.toNat 4 v ∧ decodeAccess b d o n v = i
  event : ∀ b code, IsEventOf b code i →
    ∃ n k, x = .event ((eventWord b code).extractLsb' 0 15) n k ∧ decodeEvent b code n k = some i

theorem runs_access {d : Dir} {b : Block} {n off : Nat} {v : Word} (hoff : off < 0x1000) :
    Runs (.access d b n off 4 v) (decodeAccess b d (BitVec.ofNat 12 off) n v) where
  access := fun b' d' o hi => by
    obtain ⟨rfl, rfl, rfl⟩ := (decodeAccess_isAccessOf ..).unique hi
    exact ⟨n, v, by rw [BitVec.toNat_ofNat, Nat.mod_eq_of_lt hoff], rfl⟩
  event := fun _ _ hi => absurd hi (decodeAccess_isAccessOf ..).not_event

theorem runs_event {e : BitVec 15} {n : Nat} {k : Word} {i : Instr} (hd : decode ⟨1#1 ++ e, n, k⟩ = .ok i) :
    Runs (.event e n k) i where
  access := fun b d o hi => by
    have hword : 1#1 ++ e = accessWord b d o := (wellFormed_and_word_of_decode hd).2.symm.trans hi.2
    have hkind := congrArg kindField hword
    rw [accessWord_kind] at hkind
    have hone : (1#1 : BitVec 1) = 0#1 := (BitVec.extractLsb'_append_eq_left (a := 1#1) (b := e)).symm.trans hkind
    exact absurd hone (by decide)
  event := fun b code hi => by
    refine ⟨n, k, by rw [← event_eq_of_decode hd hi], ?_⟩
    have hword : 1#1 ++ e = eventWord b code := (wellFormed_and_word_of_decode hd).2.symm.trans hi.2
    rw [hword, decode_eventWord] at hd
    cases hdec : decodeEvent b code n k <;> rw [hdec] at hd <;> cases hd
    rfl

/-- A step other than Reset(all) runs an operation or touches no register of any block. -/
theorem StepEffect.runs {s t : State} {x : Stimulus} (h : StepEffect s x t) (hx : x ≠ .resetAll) :
    (∃ i, Runs x i ∧ Effect i s t) ∨ (t.gptm = s.gptm ∧ t.ssys = s.ssys ∧ t.i2c = s.i2c ∧ t.adc = s.adc) := by
  cases h with
  | access hoff h => exact .inl ⟨_, runs_access hoff, h⟩
  | event hi h => exact .inl ⟨_, runs_event hi, h⟩
  | resetFault | resetAll => exact absurd rfl hx
  | fault | advance | save | busTaken | busLetGo | answerAcquire | answerRecv => exact .inr ⟨rfl, rfl, rfl, rfl⟩

/-! ## Falling bits -/

/-- Bit `k` falls from `x` to `y`. -/
def Falls (k : Nat) (x y : Word) : Prop := x.getLsbD k = true ∧ y.getLsbD k = false

theorem not_falls_self {k : Nat} {x : Word} : ¬ Falls k x x := fun h => absurd (h.1.symm.trans h.2) (by decide)

theorem not_falls_or {k : Nat} {x m : Word} : ¬ Falls k x (x ||| m) := by
  rintro ⟨hx, hy⟩
  rw [BitVec.getLsbD_or, hx] at hy
  cases hy

theorem not_falls_setBit {k j : Nat} {x : Word} : ¬ Falls k x (setBit x j true) := not_falls_or

theorem falls_w1c {k : Nat} {x v : Word} (h : Falls k x (w1c x v)) : v.getLsbD k = true := by
  obtain ⟨hx, hy⟩ := h
  have hk : k < 32 := BitVec.lt_of_getLsbD hx
  simpa [w1c, hk, hx] using hy

/-- A bit that falls under a mask is clear in the mask. -/
theorem falls_and {k : Nat} {x m : Word} (h : Falls k x (x &&& m)) : m.getLsbD k = false := by
  obtain ⟨hx, hy⟩ := h
  rwa [BitVec.getLsbD_and, hx, Bool.true_and] at hy

/-! ## GPTM -/

theorem Effect.gptm_falls {i : Instr} {s t : State} {m k : Nat} {g g' : Gptm} (h : Effect i s t)
    (hg : s.gptm[m]? = some g) (hg' : t.gptm[m]? = some g') (hreset : i ≠ .gptmEvReset m)
    (hrestore : ∀ w, i ≠ .gptmEvRestore m w) (hk : Falls k g.rawStatus g'.rawStatus) :
    ∃ v, i = .gptmWIcr m v ∧ v.getLsbD k = true := by
  have hset {n : Nat} {g1 : Gptm} (h : (s.gptm.set n g1)[m]? = some g') : n = m ∧ g1 = g' := by
    rw [List.getElem?_set] at h
    split at h
    case isTrue hn =>
      split at h
      · exact ⟨hn, Option.some.inj h⟩
      · cases h
    case isFalse =>
      cases hg.symm.trans h
      exact absurd hk not_falls_self
  cases h with
  | gptmStore n g0 g1 _ _ hg0 hs =>
    obtain ⟨rfl, rfl⟩ := hset hg'
    cases hg.symm.trans hg0
    obtain hr | ⟨v, hi, hr⟩ := hs.status <;> rw [hr] at hk
    · exact absurd hk not_falls_self
    · exact ⟨v, hi, falls_w1c hk⟩
  | gptmRun n g0 g1 _ _ _ hg0 hr =>
    obtain ⟨rfl, rfl⟩ := hset hg'
    cases hg.symm.trans hg0
    exact absurd ((hr.noFall k hk.1).symm.trans hk.2) (by decide)
  | gptmReplace n g1 hi =>
    obtain ⟨rfl, rfl⟩ := hset hg'
    exact (hi.elim hreset fun ⟨w, hw⟩ => hrestore w hw).elim
  | fault | read | fifoRead | ssysStore | ssysReplace | i2cStore | command | i2cReset | i2cRestore | adcStore | trigger
  | adcReplace =>
    cases hg.symm.trans hg'
    exact absurd hk not_falls_self

/-! ## SSYS -/

theorem Effect.ssys_falls {i : Instr} {s t : State} {k : Nat} (h : Effect i s t) (hreset : i ≠ .ssysEvReset)
    (hrestore : ∀ w, i ≠ .ssysEvRestore w) (hk : Falls k s.ssys.words.ris t.ssys.words.ris) :
    ∃ v, i = .ssysWCatchallRis v ∧ v.getLsbD k = false := by
  cases h with
  | ssysStore y _ _ hs =>
    rw [Ssys.recompute_words] at hk
    obtain hr | hr | ⟨v, hi, hr⟩ := hs.ris <;> rw [hr] at hk
    · exact absurd hk not_falls_self
    · exact absurd hk not_falls_or
    · exact ⟨v, hi, hk.2⟩
  | ssysReplace y hi => exact (hi.elim hreset fun ⟨w, hw⟩ => hrestore w hw).elim
  | fault | read | fifoRead | gptmStore | gptmRun | gptmReplace | i2cStore | command | i2cReset | i2cRestore | adcStore
  | trigger | adcReplace =>
    exact absurd hk not_falls_self

/-! ## ADC -/

/-- No status bit of the ADC falls. -/
structure AdcKept (a a' : Adc) : Prop where
  overflow : ∀ k, ¬ Falls k a.overflow a'.overflow
  underflow : ∀ k, ¬ Falls k a.underflow a'.underflow
  raw : ∀ k, ¬ Falls k a.rawInterruptStatus a'.rawInterruptStatus

theorem not_falls_trans {k : Nat} {x y z : Word} (h : ¬ Falls k x y) (h' : ¬ Falls k y z) : ¬ Falls k x z := by
  rintro ⟨hx, hz⟩
  cases hy : y.getLsbD k with
  | true => exact h' ⟨hy, hz⟩
  | false => exact h ⟨hx, hy⟩

theorem AdcKept.refl (a : Adc) : AdcKept a a :=
  ⟨fun _ => not_falls_self, fun _ => not_falls_self, fun _ => not_falls_self⟩

theorem AdcKept.trans {a b c : Adc} (h : AdcKept a b) (h' : AdcKept b c) : AdcKept a c :=
  ⟨fun k => not_falls_trans (h.overflow k) (h'.overflow k), fun k => not_falls_trans (h.underflow k) (h'.underflow k),
    fun k => not_falls_trans (h.raw k) (h'.raw k)⟩

theorem Adc.fifoRead_kept (p : Params) (a : Adc) (q : Fin 4) : AdcKept a (a.fifoRead p q) := by
  cases he : fifoEmpty a.fifo[q].state with
  | true =>
    rw [Adc.fifoRead_of_empty he]
    exact ⟨fun _ => not_falls_self, fun _ => not_falls_setBit, fun _ => not_falls_self⟩
  | false =>
    rw [Adc.fifoRead_of_not_empty he]
    exact ⟨fun _ => not_falls_self, fun _ => not_falls_self, fun _ => not_falls_self⟩

theorem Adc.fifoWrite_kept (p : Params) (a : Adc) (q : Fin 4) (x : Word) : AdcKept a (a.fifoWrite p q x) := by
  cases hf : fifoFull a.fifo[q].state with
  | true =>
    rw [Adc.fifoWrite_of_full hf]
    exact ⟨fun _ => not_falls_setBit, fun _ => not_falls_self, fun _ => not_falls_self⟩
  | false =>
    rw [Adc.fifoWrite_of_not_full hf]
    exact ⟨fun _ => not_falls_self, fun _ => not_falls_self, fun _ => not_falls_self⟩

theorem Adc.sampleInto_kept (p : Params) (a : Adc) (q : Fin 4) : AdcKept a (a.sampleInto p q) := by
  cases ht : a.triggered p q with
  | false => rw [Adc.sampleInto_of_not_triggered ht]; exact .refl a
  | true =>
    rw [Adc.sampleInto_of_triggered ht]
    have hw := Adc.fifoWrite_kept p { a with noise := nextNoise p a.noise } q (sampleOf (nextNoise p a.noise))
    exact ⟨hw.overflow, hw.underflow, fun _ => not_falls_setBit⟩

theorem Adc.trigger_kept (p : Params) (a : Adc) : AdcKept a (a.trigger p) :=
  Adc.trigger_of_sampleInto (P := AdcKept a) (fun _ q h => h.trans (Adc.sampleInto_kept p _ q)) a (.refl a)

theorem pulseAdc_kept (p : Params) (n : Nat) (a : Adc) : AdcKept a (pulseAdc p n a) :=
  pulseAdc_of_trigger (P := AdcKept a) (fun _ h => h.trans (Adc.trigger_kept p _)) n a (.refl a)

/-- What an operation makes of the ADC's status bits: none falls but by the W1C of its clear register. -/
theorem Effect.adc_kept {i : Instr} {s t : State} (h : Effect i s t) (hreset : i ≠ .adcEvReset)
    (hrestore : ∀ w, i ≠ .adcEvRestore w) : AdcKept s.adc t.adc ∨ AdcStore s.params i s.adc t.adc := by
  cases h with
  | fifoRead q => exact .inl (Adc.fifoRead_kept ..)
  | gptmRun _ _ _ a _ _ _ _ ha =>
    obtain rfl | rfl := ha
    · exact .inl (.refl _)
    · exact .inl (pulseAdc_kept ..)
  | trigger => exact .inl (Adc.trigger_kept ..)
  | adcStore a _ _ hs => exact .inr hs
  | adcReplace a hi => exact (hi.elim hreset fun ⟨w, hw⟩ => hrestore w hw).elim
  | fault | read | gptmStore | gptmReplace | ssysStore | ssysReplace | i2cStore | command | i2cReset | i2cRestore =>
    exact .inl (.refl _)

/-- A status word that changes only by the W1C of the operation `write`. -/
theorem exists_of_w1c_falls {i : Instr} {write : Word → Instr} {k : Nat} {x y : Word}
    (h : y = x ∨ ∃ v, i = write v ∧ y = w1c x v) (hk : Falls k x y) : ∃ v, i = write v ∧ v.getLsbD k = true := by
  obtain rfl | ⟨v, hi, rfl⟩ := h
  · exact absurd hk not_falls_self
  · exact ⟨v, hi, falls_w1c hk⟩

/-! ## I2C -/

theorem CommandOutcome.raw_kept {x x' : I2cSide} {v : Word} (h : CommandOutcome x v x') (k : Nat) :
    ¬ Falls k x.regs.rawInterruptStatus x'.regs.rawInterruptStatus := by
  have hserved (y : I2cSide) : ¬ Falls k y.regs.rawInterruptStatus (y.served v).regs.rawInterruptStatus := by
    simp only [I2cSide.served]
    split
    · exact not_falls_or
    · exact not_falls_self
  cases h with
  | disabled | lost | notHeld => exact not_falls_self
  | taken => exact hserved x.taken
  | held => exact hserved x

/-- A flag of MCS falls only by a command with MFE set: ARBLST by a START that takes the bus, ERROR by a command on a held
bus or such a START (42_i2c.md R241). -/
theorem CommandOutcome.status_falls {x x' : I2cSide} {v : Word} {k : Nat} (h : CommandOutcome x v x')
    (hk : Falls k x.regs.controlStatus x'.regs.controlStatus) :
    x.regs.masterConfig.getLsbD 4 = true ∧
      (k = 4 → v.getLsbD 1 = true ∧ x.regs.controlStatus.getLsbD 6 = false) ∧
      (k = 1 →
        (x.regs.controlStatus.getLsbD 6 = true ∧ x.bus.holder ≠ .none) ∨
        (x.regs.controlStatus.getLsbD 6 = false ∧ v.getLsbD 1 = true ∧ x.bus.holder ≠ .other)) := by
  cases h with
  | disabled => exact absurd hk not_falls_self
  | lost => exact absurd hk not_falls_or
  | notHeld => exact absurd hk not_falls_or
  | taken hmfe hstart hidle hother => exact ⟨hmfe, fun _ => ⟨hstart, hidle⟩, fun _ => .inr ⟨hidle, hstart, hother⟩⟩
  | held hmfe hbusy hheld =>
    refine ⟨hmfe, fun h4 => ?_, fun _ => .inl ⟨hbusy, hheld⟩⟩
    subst h4
    have hmask := falls_and hk
    split at hmask <;> exact absurd hmask (by decide)

theorem Effect.i2c_kept {i : Instr} {s t : State} (h : Effect i s t) (hreset : i ≠ .i2cEvReset)
    (hrestore : ∀ w, i ≠ .i2cEvRestore w) :
    (∃ v x, i = .i2cWMcs v ∧ CommandOutcome ⟨s.i2c, s.bus⟩ v x ∧ t.i2c = x.regs) ∨ I2cStore s.params i s.i2c t.i2c := by
  cases h with
  | command v hi => exact .inl ⟨v, _, hi, I2cSide.commandOutcome _ v, rfl⟩
  | i2cStore x _ _ hs => exact .inr hs
  | i2cReset hi => exact absurd hi hreset
  | i2cRestore x w hi => exact absurd hi (hrestore w)
  | fault | read | fifoRead | gptmStore | gptmRun | gptmReplace | ssysStore | ssysReplace | adcStore | trigger
  | adcReplace =>
    exact .inr ⟨rfl, .inl rfl, .inl rfl, .inl rfl⟩

/-! ## The stimuli that let a bit fall -/

/-- A stimulus that is no event of the code runs no operation that is that event. -/
theorem Runs.not_isEventOf {x : Stimulus} {i : Instr} (hx : Runs x i) (b : Block) (code : BitVec 12)
    (h : ∀ n k, x ≠ .event ((eventWord b code).extractLsb' 0 15) n k) : ¬ IsEventOf b code i := fun hi =>
  have ⟨n, k, hxe, _⟩ := hx.event b code hi
  h n k hxe

section Stimuli

variable {s t : State} {x : Stimulus} (h : StepEffect s x t) (hall : x ≠ .resetAll)

include h hall

theorem StepEffect.gptm_falls {m k : Nat} {g g' : Gptm} (hg : s.gptm[m]? = some g) (hg' : t.gptm[m]? = some g')
    (hev : ∀ w, x ≠ .event 0x0FFE#15 m w ∧ x ≠ .event 0x0FFF#15 m w) (hk : Falls k g.rawStatus g'.rawStatus) :
    ∃ v, x = .access .write .gptm m 0x024 4 v ∧ v.getLsbD k = true := by
  obtain ⟨i, hx, h⟩ | ⟨hsame, -⟩ := h.runs hall
  · have hreset : i ≠ .gptmEvReset m := by
      rintro rfl
      obtain ⟨n, w, rfl, hd⟩ := hx.event .gptm 0xFFF#12 ⟨rfl, rfl⟩
      cases hd
      exact (hev w).2 rfl
    have hrestore (u : Word) : i ≠ .gptmEvRestore m u := by
      rintro rfl
      obtain ⟨n, w, rfl, hd⟩ := hx.event .gptm 0xFFE#12 ⟨rfl, rfl⟩
      cases hd
      exact (hev _).1 rfl
    obtain ⟨v, rfl, hv⟩ := h.gptm_falls hg hg' hreset hrestore hk
    obtain ⟨n, w, rfl, hd⟩ := hx.access .gptm .write 0x024#12 ⟨rfl, rfl⟩
    cases hd
    exact ⟨_, rfl, hv⟩
  · rw [hsame, hg] at hg'
    cases hg'
    exact absurd hk not_falls_self

theorem StepEffect.ssys_falls {k : Nat} (hev : ∀ n w, x ≠ .event 0x2FFE#15 n w ∧ x ≠ .event 0x2FFF#15 n w)
    (hk : Falls k s.ssys.words.ris t.ssys.words.ris) :
    ∃ n v, x = .access .write .ssys n 0x050 4 v ∧ v.getLsbD k = false := by
  obtain ⟨i, hx, h⟩ | ⟨-, hsame, -⟩ := h.runs hall
  · have hreset := hx.not_isEventOf .ssys 0xFFF#12 fun n w => (hev n w).2
    have hrestore := hx.not_isEventOf .ssys 0xFFE#12 fun n w => (hev n w).1
    obtain ⟨v, rfl, hv⟩ := h.ssys_falls (fun hi => hreset (hi ▸ ⟨rfl, rfl⟩)) (fun _ hi => hrestore (hi ▸ ⟨rfl, rfl⟩)) hk
    obtain ⟨n, w, rfl, hd⟩ := hx.access .ssys .write 0x050#12 ⟨rfl, rfl⟩
    cases hd
    exact ⟨_, _, rfl, hv⟩
  · rw [hsame] at hk
    exact absurd hk not_falls_self

/-- The ADC's status bits stay set, or the stimulus runs an ADC register write. -/
theorem StepEffect.adc_kept (hev : ∀ n w, x ≠ .event 0x6FFE#15 n w ∧ x ≠ .event 0x6FFF#15 n w) :
    AdcKept s.adc t.adc ∨ ∃ i, Runs x i ∧ AdcStore s.params i s.adc t.adc := by
  obtain ⟨i, hx, h⟩ | ⟨-, -, -, hsame⟩ := h.runs hall
  · have hreset := hx.not_isEventOf .adc 0xFFF#12 fun n w => (hev n w).2
    have hrestore := hx.not_isEventOf .adc 0xFFE#12 fun n w => (hev n w).1
    exact (h.adc_kept (fun hi => hreset (hi ▸ ⟨rfl, rfl⟩)) (fun _ hi => hrestore (hi ▸ ⟨rfl, rfl⟩))).imp_right
      fun hs => ⟨i, hx, hs⟩
  · exact .inl (hsame ▸ .refl _)

theorem StepEffect.overflow_falls (hev : ∀ n w, x ≠ .event 0x6FFE#15 n w ∧ x ≠ .event 0x6FFF#15 n w) {k : Nat}
    (hk : Falls k s.adc.overflow t.adc.overflow) :
    ∃ n v, x = .access .write .adc n 0x010 4 v ∧ v.getLsbD k = true := by
  obtain hkept | ⟨i, hx, hs⟩ := h.adc_kept hall hev
  · exact absurd hk (hkept.overflow k)
  · obtain ⟨v, rfl, hv⟩ := exists_of_w1c_falls hs.overflow hk
    obtain ⟨n, w, rfl, hd⟩ := hx.access .adc .write 0x010#12 ⟨rfl, rfl⟩
    cases hd
    exact ⟨_, _, rfl, hv⟩

theorem StepEffect.underflow_falls (hev : ∀ n w, x ≠ .event 0x6FFE#15 n w ∧ x ≠ .event 0x6FFF#15 n w) {k : Nat}
    (hk : Falls k s.adc.underflow t.adc.underflow) :
    ∃ n v, x = .access .write .adc n 0x018 4 v ∧ v.getLsbD k = true := by
  obtain hkept | ⟨i, hx, hs⟩ := h.adc_kept hall hev
  · exact absurd hk (hkept.underflow k)
  · obtain ⟨v, rfl, hv⟩ := exists_of_w1c_falls hs.underflow hk
    obtain ⟨n, w, rfl, hd⟩ := hx.access .adc .write 0x018#12 ⟨rfl, rfl⟩
    cases hd
    exact ⟨_, _, rfl, hv⟩

theorem StepEffect.adcRaw_falls (hev : ∀ n w, x ≠ .event 0x6FFE#15 n w ∧ x ≠ .event 0x6FFF#15 n w) {k : Nat}
    (hk : Falls k s.adc.rawInterruptStatus t.adc.rawInterruptStatus) :
    ∃ n v, x = .access .write .adc n 0x00C 4 v ∧ v.getLsbD k = true := by
  obtain hkept | ⟨i, hx, hs⟩ := h.adc_kept hall hev
  · exact absurd hk (hkept.raw k)
  · obtain ⟨v, rfl, hv⟩ := exists_of_w1c_falls hs.raw hk
    obtain ⟨n, w, rfl, hd⟩ := hx.access .adc .write 0x00C#12 ⟨rfl, rfl⟩
    cases hd
    exact ⟨_, _, rfl, hv⟩

/-- The I2C registers stay, or the stimulus runs a command or another register write. -/
theorem StepEffect.i2c_kept (hev : ∀ n w, x ≠ .event 0x4FFE#15 n w ∧ x ≠ .event 0x4FFF#15 n w) :
    t.i2c = s.i2c ∨
      (∃ n v y, x = .access .write .i2c n 0x004 4 v ∧ CommandOutcome ⟨s.i2c, s.bus⟩ v y ∧ t.i2c = y.regs) ∨
      ∃ i, Runs x i ∧ I2cStore s.params i s.i2c t.i2c := by
  obtain ⟨i, hx, h⟩ | ⟨-, -, hsame, -⟩ := h.runs hall
  · have hreset := hx.not_isEventOf .i2c 0xFFF#12 fun n w => (hev n w).2
    have hrestore := hx.not_isEventOf .i2c 0xFFE#12 fun n w => (hev n w).1
    obtain ⟨v, y, rfl, hy, ht⟩ | hs :=
      h.i2c_kept (fun hi => hreset (hi ▸ ⟨rfl, rfl⟩)) (fun _ hi => hrestore (hi ▸ ⟨rfl, rfl⟩))
    · obtain ⟨n, w, rfl, hd⟩ := hx.access .i2c .write 0x004#12 ⟨rfl, rfl⟩
      cases hd
      exact .inr (.inl ⟨n, _, y, rfl, hy, ht⟩)
    · exact .inr (.inr ⟨i, hx, hs⟩)
  · exact .inl hsame

theorem StepEffect.i2cRaw_falls (hev : ∀ n w, x ≠ .event 0x4FFE#15 n w ∧ x ≠ .event 0x4FFF#15 n w) {k : Nat}
    (hk : Falls k s.i2c.rawInterruptStatus t.i2c.rawInterruptStatus) :
    ∃ n v, x = .access .write .i2c n 0x01C 4 v ∧ v.getLsbD k = true := by
  obtain hsame | ⟨n, v, y, -, hy, ht⟩ | ⟨i, hx, hs⟩ := h.i2c_kept hall hev
  · exact absurd (hsame ▸ hk) not_falls_self
  · exact absurd (ht ▸ hk) (hy.raw_kept k)
  · obtain ⟨v, rfl, hv⟩ := exists_of_w1c_falls hs.raw hk
    obtain ⟨n, w, rfl, hd⟩ := hx.access .i2c .write 0x01C#12 ⟨rfl, rfl⟩
    cases hd
    exact ⟨_, _, rfl, hv⟩

theorem StepEffect.mcs_falls (hev : ∀ n w, x ≠ .event 0x4FFE#15 n w ∧ x ≠ .event 0x4FFF#15 n w) {k : Nat}
    (hk : Falls k s.i2c.controlStatus t.i2c.controlStatus) :
    ∃ n v, x = .access .write .i2c n 0x004 4 v ∧ s.i2c.masterConfig.getLsbD 4 = true ∧
      (k = 4 → v.getLsbD 1 = true ∧ s.i2c.controlStatus.getLsbD 6 = false) ∧
      (k = 1 →
        (s.i2c.controlStatus.getLsbD 6 = true ∧ s.bus.holder ≠ .none) ∨
        (s.i2c.controlStatus.getLsbD 6 = false ∧ v.getLsbD 1 = true ∧ s.bus.holder ≠ .other)) := by
  obtain hsame | ⟨n, v, y, hx, hy, ht⟩ | ⟨i, -, hs⟩ := h.i2c_kept hall hev
  · exact absurd (hsame ▸ hk) not_falls_self
  · exact ⟨n, v, hx, hy.status_falls (ht ▸ hk)⟩
  · exact absurd (hs.status ▸ hk) not_falls_self

end Stimuli

end Sys2Proof.Machine
end

section
/-! The statement about falling status bits. -/

namespace Sys2Proof.Proofs

open Sys2Proof.Machine

/-- Settles O56, by the block that each status bit belongs to. -/
theorem statusBitsFallOnlyWhereTheFirmwareClearsThem : Obligations.StatusBitsFallOnlyWhereTheFirmwareClearsThem := by
  intro s t x ⟨_, hperform⟩ hall
  have h := perform_effect hperform
  exact
    ⟨fun m g g' hg hg' hev k h0 h1 => h.gptm_falls hall hg hg' hev ⟨h0, h1⟩,
      fun hev k h0 h1 => h.ssys_falls hall hev ⟨h0, h1⟩,
      fun hev =>
        ⟨fun k h0 h1 => h.overflow_falls hall hev ⟨h0, h1⟩, fun k h0 h1 => h.underflow_falls hall hev ⟨h0, h1⟩,
          fun k h0 h1 => h.adcRaw_falls hall hev ⟨h0, h1⟩⟩,
      fun hev => ⟨fun k h0 h1 => h.i2cRaw_falls hall hev ⟨h0, h1⟩, fun k h0 h1 => h.mcs_falls hall hev ⟨h0, h1⟩⟩⟩

end Sys2Proof.Proofs
end
